-- ==== Sys2Proof/Word.lean ====
section
/-! DEFINITION. The words the station handles as bits: bytes of its records, converter codes, the 16-bit frame check. -/

namespace Sys2Proof

/-- A byte of a frame, of the profile record or of a modem port record (12_formats.md). -/
abbrev Byte := BitVec 8

/-- A code of one of the station's converters, 0–4095 (R74, R134 to R137). -/
abbrev Code := BitVec 12

/-- A two-byte word of a record, and the frame's 16-bit check (R42, R194). -/
abbrev Half := BitVec 16

end Sys2Proof
end

