-- ==== Sys2Proof/Syntax.lean ====
section
/-! DEFINITION. The commands: one constructor per row of spec/opcode_table.json, with the operands the row's
rule gives it. A row that is an expiry, the end of a period or the processing of something the station holds
carries only what tells which of several it is (a port, a station number). -/

namespace Sys2Proof

/-- One of the two handset ports (R1). -/
inductive PortId where
  | one
  | two
  deriving DecidableEq, Repr

/-- One of the twelve digits of a tone pair (R5); a pulse digit is a `num` (R4). -/
inductive Digit where
  | num (n : Fin 10)
  | star
  | hash
  deriving DecidableEq, Repr

/-- The withheld mark of a caller message (02, Caller display). -/
inductive Withheld where
  | none
  | withheld
  | unavailable
  deriving DecidableEq, Repr

/-- A caller message as received to its last byte. The manual gives its fields and not its byte layout
(assumption 7): `sum` is the sum of every byte of the message modulo 256 (R37), `dateTime` the decimal digits
received for the date-time, eight when it is present as R37 asks. -/
structure CallerMessage where
  sum      : Byte
  dateTime : List (Fin 10)
  number   : Option (List (Fin 10))
  name     : Option (List Byte)
  withheld : Withheld
  deriving DecidableEq, Repr

/-- The five strap pins (R180): three give the station number less one. -/
structure Straps where
  numberPins : BitVec 3
  modem      : Bool
  port2      : Bool
  deriving DecidableEq, Repr

/-- R188: the bits of the sync word 0xB3 0x4D, each byte least significant bit first. SYNC_FOUND carries the latest 16
bits of the sync search, and these by default (assumption 48). -/
def syncBits : List Bool :=
  [true, true, false, false, true, true, false, true, true, false, true, true, false, false, true, false]

/-- The commands, in the table's order. -/
inductive Instr where
  | powerUp (straps : Straps) (memory : List Byte)
  | hookMakeEdge (p : PortId)
  | hookBreakEdge (p : PortId)
  | offHook (p : PortId)
  | onHook (p : PortId)
  | pulseTrainEnd (p : PortId)
  | toneDigit (p : PortId)
  | digitToneEnd
  | toneSenderFree
  | transfer (p : PortId) (station : Nat)
  | flashCodeRefused (p : PortId) (d : Digit)
  | localService (p : PortId)
  | retrieve (p : PortId)
  | hashHashEntry (p : PortId)
  | flashWindowExpiry (p : PortId)
  | hashWindowExpiry (p : PortId)
  | announceTheFaultLog (p : PortId)
  | surveyNow (p : PortId)
  | serviceCodeRestart (p : PortId)
  | leaveLocal (p : PortId)
  | serviceCodeRefused (p : PortId) (d : Digit)
  | localRestartDue (p : PortId)
  | announcementEnd (p : PortId)
  | oneShotToneEnd (p : PortId)
  | stateTonePeriod (p : PortId)
  | lockout (p : PortId)
  | ringVoltageOn
  | ringVoltageOff
  | burstStart
  | burstEnd
  | quietTimerExpiry
  | patternPeriodEnd (p : PortId)
  | ringOverload (p : PortId)
  | callerWindowExpiry
  | callerMessage (m : CallerMessage)
  | callerSendEnd (p : PortId)
  | carrierPresent
  | carrierAbsent
  | quietGapMet
  | backoffUnit
  | collision
  | sendSuccess
  | jamTimerExpiry
  | syncFound (bits : List Bool := syncBits)
  | bodyLengthTooLong (len : Byte)
  | frameEnd (kindSender : Byte) (body : List Byte) (check : Half)
  | clashTimerExpiry
  | state
  | notice
  | call
  | fault
  | survey
  | peerSilenceExpiry (station : Nat)
  | peerRemovalExpiry (station : Nat)
  | announceTimerExpiry
  | lineSample (v : Code)
  | leadEnd
  | recallBreakEnd
  | parkOfferExpiry
  | recallingExpiry
  | incomingTransferExpiry
  | tookTransferExpiry
  | dayClockAdvance
  | commandTake
  | takeDeadlineExpiry
  | statusReport (link : Byte) (level : Byte) (margin : Half)
  | linkUpFall
  | requestWaitingRise (code : Byte) (tag : Byte)
  | settleTimerExpiry
  | trainingTimerExpiry
  | retrainDelayExpiry
  | retrainStampExpiry
  | braceWindowEnd
  | stepWatchExpiry
  | surveyDue
  | surveyLeadEnd
  | openSample (v : Code)
  | loadSample (v : Code) (i : Code)
  | earthSample (tip : Code) (ring : Code)
  | noiseSample (c : Code)
  | localisationRunEnd
  | summary
  | next
  | clear
  | figures
  | surveyRequest
  | restartRequest
  | unknownRequest
  | restartDeadlineExpiry
  | lineLampFlash
  | announcementBeepPeriod (p : PortId)
  | tonePairOnset (p : PortId) (d : Digit)
  | tonePairCeased (p : PortId)
  | callerMessageFirstByte
  deriving DecidableEq, Repr

end Sys2Proof
end

