-- ==== Sys2Proof/Decode.lean ====
section
/-! DEFINITION. The command that a word spells by the table's bits. -/

namespace Sys2Proof

/-- spec/opcode_table.json gives no bits to any row (98_reader.md: "n_rows_with_fixed": 0), so no word spells a
command (assumption 20). -/
def decodeTableWord (_nbits _w : Nat) : Option Instr := none

end Sys2Proof
end

