-- ==== Sys2Proof/Config.lean ====
section
/-! DEFINITION. The free values: what the manual leaves open and the machine then goes on with.
None has a body, so no proof can depend on what it is. -/

namespace Sys2Proof

/-- R45: the backoff count is drawn "uniformly from 0 to window − 1". The draw numbered `n` is this value
modulo the window. Free value, assumption 6. -/
opaque Config.backoffDraw : Nat → Nat

/-- R174 gives the NOTICE end as "a signed count of 100 ms units from the serving" and names no rounding.
Whether a time of `d` milliseconds that is no whole number of units is rounded up. Free value, assumption 18. -/
opaque Config.noticeEndRoundsUp : Int → Bool

/-- R196 gives the NOTICE end two signed bytes. What is sent below the sign bit for a count of units outside them
(R174 gives the sign). Free value, assumption 18. -/
opaque Config.noticeEndOutOfRange : Int → BitVec 15

/-- R196 gives the age of the NOTICE part three bytes. What is sent for a count of seconds above them. Free
value, assumption 18. -/
opaque Config.noticeAgeOutOfRange : Nat → BitVec 24

end Sys2Proof
end

