-- ==== Sys2Proof/Machine/State.lean ====
section
/-! DEFINITION. Everything the manual gives the station to hold, block by block (00_scope.md, Block overview), and
the station right after the start event. Plain data: times are uptimes in whole milliseconds (R93), a timer is an
optional deadline (R94). Counts are natural numbers; their ranges are invariants (Safety.lean). -/

namespace Sys2Proof.Machine

/-! ### Outcomes -/

/-- The manual stops the station nowhere: no command ends in a fault. -/
inductive Fault where
  deriving DecidableEq, Repr

/-- Refusals of a command. -/
inductive Refusal where
  /-- Raised only by an arm of `exec` that has no meaning yet. Safe. No arm does. -/
  | notModelled (mnemonic : String)
  deriving DecidableEq, Repr

/-! ### Handset ports (01) -/

/-- R1. -/
inductive PortState where
  | absent | idle | ringing | connected | loc | refused | lockout
  deriving DecidableEq, Repr

/-- R10. -/
inductive RingCause where
  | exchange | transfer | recall
  deriving DecidableEq, Repr

/-- The declared hook (R2, R3). -/
inductive Hook where
  | on | off
  deriving DecidableEq, Repr

/-- The level at a hook-sense input: make is the handset loop closed (01, Hook classification). -/
inductive HookLevel where
  | make | brk
  deriving DecidableEq, Repr

/-- The "##" window: its expiry, and whether it was opened after a flash (R19). -/
structure HashWindow where
  expiry     : Nat
  afterFlash : Bool
  deriving DecidableEq, Repr

/-- The steady one-shot tones (R7). -/
inductive OneShot where
  | error | beep | confirm | allClear
  deriving DecidableEq, Repr

/-- A port's tone output (R7). `stateTone` is the busy tone or the LOCAL pip, in its on or off period;
`announcing` is the announcement, whose period the port's `ann` holds. -/
inductive Tone where
  | none
  | oneShot (kind : OneShot) (ends : Nat)
  | announcing
  | stateTone (on : Bool) (ends : Nat)
  deriving DecidableEq, Repr

/-- The periods of a fault announcement (R20). -/
inductive BeepPhase where
  | beep | silence | gap | allClear
  deriving DecidableEq, Repr

/-- An announcement: the sequence and class numbers of the records kept as its list, the place reached, the beeps
still to be finished for the record there, and the present period (R20). -/
structure Announcement where
  list  : List (Nat × Nat)
  place : Nat
  beeps : Nat
  phase : BeepPhase
  ends  : Nat
  deriving DecidableEq, Repr

/-- A tone pair on the handset side of the voice path (R5). -/
structure TonePair where
  digit      : Digit
  onset      : Nat
  recognised : Bool
  deriving DecidableEq, Repr

/-- The port record (01), with the tone detector's pair (R5) and the wait of service code 3 (R21). -/
structure Port where
  st         : PortState
  cause      : Option RingCause
  hook       : Hook
  level      : HookLevel
  makeStart  : Option Nat
  breakStart : Option Nat
  train      : Option Nat
  flashEnd   : Option Nat
  digitsSeen : Nat
  hashWin    : Option HashWindow
  mute       : Bool
  fifo       : List (Fin 10)
  discards   : Nat
  lockoutEnd : Option Nat
  tone       : Tone
  ann        : Option Announcement
  pair       : Option TonePair
  restartAt  : Option Nat
  deriving DecidableEq, Repr

/-- The line-side tone sender (R14). -/
inductive Sender where
  | free
  | tone (p : PortId) (digit : Fin 10) (ends : Nat)
  | silence (ends : Nat)
  deriving DecidableEq, Repr

/-- The sender and the port it served last (R14). -/
structure ToneSender where
  sender     : Sender
  lastServed : PortId
  deriving DecidableEq, Repr

/-! ### Ring and cadence unit (02) -/

/-- R24. -/
inductive BurstState where
  | quiet | starting | burst | ending
  deriving DecidableEq, Repr

/-- R25. -/
inductive CallState where
  | none | inProgress | answered
  deriving DecidableEq, Repr

/-- The two patterns the station holds (R32). -/
inductive Pattern where
  | transfer | recall
  deriving DecidableEq, Repr

/-- The generator's mode (R31, R32); in PATTERN, the pair reached (from 0), whether its on period runs, and the end
of the present period. -/
inductive Cadence where
  | off
  | mirror
  | pattern (kind : Pattern) (pair : Nat) (on : Bool) (ends : Nat)
  deriving DecidableEq, Repr

/-- What the ring and cadence unit holds for one port. `gateSince` is the opening of the open gate, from which the
25 Hz wave runs, a high half first (R31). -/
structure PortRing where
  admitted       : Bool
  demandTransfer : Bool
  demandRecall   : Bool
  mode           : Cadence
  gateSince      : Option Nat
  cut            : Bool
  sendEnd        : Option Nat
  sent           : Bool
  deriving DecidableEq, Repr

/-- The caller record (R38). -/
structure CallerRecord where
  dateTime : List (Fin 10)
  number   : Option (List (Fin 10))
  name     : Option (List Byte)
  withheld : Withheld
  deriving DecidableEq, Repr

/-- The ring and cadence unit. `voltage` is the raw presence of ring voltage on the pair; `burstSince` the uptime of
the raw edge that entered STARTING or ENDING (R24); `windowOpened` whether the caller window has been opened for the
present call, in which it does not reopen (R36, assumption 49). -/
structure RingUnit where
  burst        : BurstState
  burstSince   : Nat
  voltage      : Bool
  call         : CallState
  burstNo      : Nat
  quietEnd     : Option Nat
  ring1        : PortRing
  ring2        : PortRing
  callerEnd    : Option Nat
  windowOpened : Bool
  receiving    : Bool
  record       : Option CallerRecord
  checkFails   : Nat
  overwrites   : Nat
  deriving DecidableEq, Repr

/-! ### Line monitor (05) -/

/-- R74. -/
inductive LineState where
  | idle | inUse | dead
  deriving DecidableEq, Repr

/-- R74 to R76. -/
structure LineMonitor where
  st      : LineState
  useRun  : Nat
  lowRun  : Nat
  goodRun : Nat
  drop    : Nat
  deriving DecidableEq, Repr

/-! ### Loop and park unit (05) -/

/-- R77. -/
inductive LoopState where
  | opened | closed | hold
  deriving DecidableEq, Repr

/-- The acts a lead announces (R79). -/
inductive LeadAct where
  | loopClose | loopOpen | holdOpen | recall | handover
  deriving DecidableEq, Repr

/-- A running lead (R80): the acts it announces, the latest placement, whether a NOTICE already in flight at that
placement is still on its way (its report does not count), and the NOTICE-sent report that does. -/
structure Lead where
  acts   : List LeadAct
  placed : Nat
  stale  : Bool
  sent   : Option Nat
  deriving DecidableEq, Repr

/-- R82. -/
inductive Recall where
  | none
  | lead
  | brk (ends : Nat)
  deriving DecidableEq, Repr

/-- The phases of a park record (05, Call transfer). -/
inductive ParkPhase where
  | offered | recalling | releasing
  deriving DecidableEq, Repr

/-- The park record at the parker. -/
structure Park where
  target : Nat
  parkId : Nat
  port   : PortId
  start  : Nat
  phase  : ParkPhase
  expiry : Option Nat
  deriving DecidableEq, Repr

/-- The incoming transfer record at the target; `taking` is the taking port in phase TAKING and absent in phase
RINGING. -/
structure Incoming where
  parker : Nat
  parkId : Nat
  taking : Option PortId
  expiry : Nat
  deriving DecidableEq, Repr

/-- The took-transfer mark (R88). -/
structure Took where
  parker : Nat
  parkId : Nat
  expiry : Nat
  deriving DecidableEq, Repr

/-- The loop and park unit. -/
structure LoopUnit where
  loop       : LoopState
  lead       : Option Lead
  recallState : Recall
  park       : Option Park
  lastParkId : Nat
  incoming   : Option Incoming
  took       : Option Took
  deriving DecidableEq, Repr

/-! ### Frames (03, 12) -/

/-- R79. -/
inductive NoticeKind where
  | loopClose | loopOpen | surveyLoad | handover
  deriving DecidableEq, Repr

/-- R83. -/
inductive CallStep where
  | offer | withdrawn | taken
  deriving DecidableEq, Repr

/-- The five frame kinds (R187). -/
inductive FrameKind where
  | state | notice | call | fault | survey
  deriving DecidableEq, Repr

/-- The holding roles (07). -/
inductive Role where
  | absent | quiet | standby | training | holding | recovering | resting
  deriving DecidableEq, Repr

/-- Why the station last started (R184). -/
inductive RestartCause where
  | power | remote | loc
  deriving DecidableEq, Repr

/-- A day clock as a STATE carries it: the quality byte (1 CALLER, 2 PEER; any other is judged by R98) and month, day,
hour, minute as received (R65, R189). -/
structure CarriedClock where
  quality : Nat
  month   : Nat
  day     : Nat
  hour    : Nat
  minute  : Nat
  deriving DecidableEq, Repr

/-- The fields of a STATE (R60). A park offer is (target, park id), a took-transfer (parker, park id). -/
structure StateFields where
  cause     : RestartCause
  count     : Nat
  port1     : PortState
  port2     : PortState
  loop      : LoopState
  role      : Role
  braced    : Bool
  offer     : Option (Nat × Nat)
  took      : Option (Nat × Nat)
  clock     : Option CarriedClock
  ownFaults : Nat
  deriving DecidableEq, Repr

/-- A figures record (R145); `feed` absent is UNMEASURABLE. -/
structure Figures where
  number    : Nat
  measured  : Nat
  vOpen     : Nat
  feed      : Option Nat
  atLimit   : Bool
  imbalance : Option Nat
  grade     : Nat
  offset    : Nat
  deriving DecidableEq, Repr

/-- One entry of a FAULT snapshot (R157). -/
structure FaultEntry where
  cls   : Nat
  qual  : Option Nat
  count : Nat
  value : Option Nat
  deriving DecidableEq, Repr

/-- A FAULT snapshot (R157). -/
structure Snapshot where
  entries : List FaultEntry
  more    : Bool
  deriving DecidableEq, Repr

/-- A frame of the station's own, as it is placed and sent. -/
inductive Frame where
  | state (f : StateFields)
  | notice (kind : NoticeKind) (dur : Nat)
  | call (step : CallStep) (station : Nat) (parkId : Nat)
  | fault (f : Snapshot)
  | survey (f : Figures)
  deriving DecidableEq, Repr

/-! ### Station channel transceiver (03) -/

/-- R45. -/
inductive TxState where
  | idle | waiting | sending
  deriving DecidableEq, Repr

/-- R51. -/
inductive RxState where
  | hunt | frame | drain | silent
  deriving DecidableEq, Repr

/-- A frame that passed the tests of R53: its kind, its sender 1–8, its body. -/
structure RxFrame where
  kind   : FrameKind
  sender : Nat
  body   : List Byte
  deriving DecidableEq, Repr

/-- An occupied receive slot (R51, R55). -/
inductive RxSlot where
  | filling
  | delivered (f : RxFrame)
  | processing (f : RxFrame)
  deriving DecidableEq, Repr

/-- The transceiver. The five transmit slots hold their pending frames; `flight` is the frame in flight, begun at
`began`. `carrier` is the signal in the band from any source but the station's own transmission (assumption 46);
`quietFrom` is the uptime from which the quiet now being counted runs, while WAITING on a quiet channel.
`slots` lists the occupied receive slots of the two, in the order they were claimed, which is the order of delivery;
a slot not listed is FREE (assumption 17). `draws` numbers the backoff draws (assumption 6). -/
structure Channel where
  noticeSlot  : Option (NoticeKind × Nat)
  callSlot    : Option (CallStep × Nat × Nat)
  faultSlot   : Option Snapshot
  stateSlot   : Option StateFields
  surveySlot  : Option Figures
  flight      : Option Frame
  began       : Nat
  tx          : TxState
  window      : Nat
  count       : Nat
  gapMet      : Bool
  quietFrom   : Option Nat
  jamEnd      : Option Nat
  carrier     : Bool
  rx          : RxState
  slots       : List RxSlot
  clashEnd    : Option Nat
  sent        : Nat
  collisions  : Nat
  checkFails  : Nat
  formatErrs  : Nat
  overruns    : Nat
  received    : Nat
  draws       : Nat
  deriving DecidableEq, Repr

/-! ### Peer table and STATE announcement (04) -/

/-- The NOTICE part of a peer entry (R66). -/
structure NoticePart where
  kind    : NoticeKind
  receipt : Nat
  ends    : Nat
  deriving DecidableEq, Repr

/-- A peer entry (04); the STATE and figures parts carry their receipt times. `present` false is SILENT. -/
structure Peer where
  number     : Nat
  present    : Bool
  lastHeard  : Nat
  silenceEnd : Option Nat
  removalEnd : Option Nat
  statePart  : Option (StateFields × Nat)
  figures    : Option (Figures × Nat)
  notice     : Option NoticePart
  deriving DecidableEq, Repr

/-- The STATE announcement (R61, R62). -/
structure Announce where
  timerEnd : Option Nat
  count    : Nat
  deriving DecidableEq, Repr

/-! ### Time keeping (06) -/

/-- The day clock's quality while it is set (R95). -/
inductive Quality where
  | caller | peer
  deriving DecidableEq, Repr

/-- A set day clock (R95). -/
structure DayClock where
  quality : Quality
  month   : Nat
  day     : Nat
  hour    : Nat
  minute  : Nat
  second  : Nat
  deriving DecidableEq, Repr

/-- Time keeping: uptime in milliseconds; the day clock, absent while the quality is UNSET; the seconds count up to
which the advance of R96 has been taken (assumption 1). -/
structure TimeKeeping where
  uptime   : Nat
  clock    : Option DayClock
  secTaken : Nat
  deriving DecidableEq, Repr

/-! ### Modem port (07) -/

/-- The modem's link (R105). -/
inductive Link where
  | down | training | up
  deriving DecidableEq, Repr

/-- The modem commands (R194); RESPOND carries one response record. -/
inductive Command where
  | train (level : Nat)
  | step (level : Nat)
  | brace (dur : Nat)
  | unbrace
  | drop
  | respond (record : List Byte)
  deriving DecidableEq, Repr

/-- The command slot while it holds a command (R102). -/
structure CommandSlot where
  cmd      : Command
  waiting  : Bool
  deadline : Nat
  deriving DecidableEq, Repr

/-- A request record (R168). -/
structure Request where
  code : Byte
  tag  : Byte
  deriving DecidableEq, Repr

/-- The modem port. -/
structure ModemPort where
  slot           : Option CommandSlot
  queue          : List Command
  link           : Link
  level          : Option Nat
  faultPresent   : Bool
  braced         : Bool
  linkUp         : Bool
  requestWaiting : Bool
  request        : Option Request
  deriving DecidableEq, Repr

/-! ### Holding controller (07) -/

/-- An open brace window (R119). -/
structure BraceWindow where
  start : Nat
  ends  : Nat
  deriving DecidableEq, Repr

/-- A running step watch (R125). -/
structure StepWatch where
  expiry  : Nat
  earlier : Nat
  deriving DecidableEq, Repr

/-- The holding controller. `history` holds stamps in whole seconds, oldest first (R117). -/
structure Holding where
  role        : Role
  level       : Nat
  upSince     : Option Nat
  s16         : Option Nat
  window      : Option BraceWindow
  history     : List Nat
  settleEnd   : Option Nat
  trainingEnd : Option Nat
  underWay    : Bool
  retrainEnd  : Option Nat
  nightMark   : Bool
  stepLevel   : Option Nat
  stepEarlier : Option Nat
  watch       : Option StepWatch
  deriving DecidableEq, Repr

/-! ### Survey unit (08) -/

/-- R128. -/
inductive Stage where
  | idle | notice | opened | load | earth | noise
  deriving DecidableEq, Repr

/-- The survey lead (R132). -/
structure SurveyLead where
  placed : Nat
  stale  : Bool
  sent   : Option Nat
  deriving DecidableEq, Repr

/-- The sample sums of the survey in progress (R134 to R137). -/
structure Sums where
  openV     : Nat
  loadV     : Nat
  loadI     : Nat
  earthTip  : Nat
  earthRing : Nat
  noise     : Nat
  deriving DecidableEq, Repr

/-- The survey unit. `taken` counts the samples of the present stage; `sampleAt` is the instant of the next, in
units of 125 µs of uptime (assumption 22). -/
structure Survey where
  stage      : Stage
  dueEnd     : Option Nat
  deferrals  : Nat
  lead       : Option SurveyLead
  sums       : Sums
  taken      : Nat
  sampleAt   : Nat
  loadOn     : Bool
  aborts     : Nat
  number     : Nat
  figures    : Option Figures
  collection : List Nat
  baseline   : Option Nat
  deriving DecidableEq, Repr

/-! ### Fault log (09) -/

/-- The fifteen fault classes, in number order (R150). -/
inductive FaultClass where
  | lineDown | loopHigh | joint | earth | noise | linkLost | retrainRest | modemSilent | handsetLockout
  | ringFault | peerSilent | numberClash | channelJam | surveyBlocked | profileDefault
  deriving DecidableEq, Repr

/-- R150. -/
inductive Source where
  | own | mirrored | localised
  deriving DecidableEq, Repr

/-- The state of a record (R152, R154). -/
inductive RecState where
  | active | cleared
  deriving DecidableEq, Repr

/-- The first day-clock stamp (R152). -/
structure Stamp where
  month  : Nat
  day    : Nat
  hour   : Nat
  minute : Nat
  deriving DecidableEq, Repr

/-- A fault record (09). -/
structure Record where
  seq      : Nat
  cls      : FaultClass
  origin   : Nat
  qual     : Option Nat
  source   : Source
  st       : RecState
  reported : Bool
  first    : Nat
  last     : Nat
  stamp    : Option Stamp
  count    : Nat
  value    : Option Nat
  deriving DecidableEq, Repr

/-- One eligible set of figures (R164). -/
structure RunSet where
  station : Nat
  feed    : Nat
  offset  : Nat
  deriving DecidableEq, Repr

/-- A localisation run in progress (R163, R164). -/
structure Run where
  sets      : List RunSet
  ends      : Nat
  holdsSlot : Bool
  deriving DecidableEq, Repr

/-- The last localisation reference (R166). -/
structure Reference where
  station : Nat
  feed    : Nat
  uptime  : Nat
  deriving DecidableEq, Repr

/-- The fault log; `records` stands in the order of creation (R153). `pendingRun` is set with whether the trigger
holds a receive slot. `snapshotAsked` is the model's own: set within an event that must place a FAULT at its end
(R156, R158), clear between events. -/
structure FaultLog where
  records       : List Record
  seqCounter    : Nat
  overflow      : Nat
  run           : Option Run
  pendingRun    : Option Bool
  reference     : Option Reference
  snapshotAsked : Bool
  deriving DecidableEq, Repr

/-! ### Management responder (10) -/

/-- The one answer in the modem port (R169). -/
structure Outstanding where
  code   : Byte
  tag    : Byte
  issued : Nat
  deriving DecidableEq, Repr

/-- The management responder; the pending mark is a sequence number and a record state (R171). -/
structure Responder where
  overwrites  : Nat
  outstanding : Option Outstanding
  pendingMark : Option (Nat × RecState)
  restartEnd  : Option Nat
  deriving DecidableEq, Repr

/-! ### Profile loader (11) -/

/-- R28. -/
inductive RingPolicy where
  | always | daytime | delayed | never
  deriving DecidableEq, Repr

/-- R8. -/
inductive Privacy where
  | join | priv
  deriving DecidableEq, Repr

/-- R181. -/
inductive ProfileSource where
  | read | default
  deriving DecidableEq, Repr

/-- The profile record (R182). -/
structure Profile where
  policy1          : RingPolicy
  policy2          : RingPolicy
  delayedBursts    : Nat
  dayStart         : Nat
  dayEnd           : Nat
  privacy          : Privacy
  announceInterval : Nat
  surveyInterval   : Nat
  expectedOffset   : Nat
  jointThreshold   : Nat
  loopLimit        : Nat
  earthThreshold   : Nat
  noiseThreshold   : Nat
  startLevel       : Nat
  maxLevel         : Nat
  retrainBudget    : Nat
  deriving DecidableEq, Repr

/-- The profile loader: straps, profile, restart cause and count. -/
structure Loader where
  station : Nat
  modem   : Bool
  port2   : Bool
  profile : Profile
  source  : ProfileSource
  cause   : RestartCause
  count   : Nat
  deriving DecidableEq, Repr

/-! ### Lamps (10) -/

/-- The LINE lamp (R178). -/
inductive LineLamp where
  | off
  | steady
  | flashing (lit : Bool) (ends : Nat)
  deriving DecidableEq, Repr

/-- Both lamps (R178, R179). -/
structure Lamps where
  line  : LineLamp
  fault : Bool
  deriving DecidableEq, Repr

/-! ### The station -/

/-- The whole station, one field per block (two for the ports), and the queue of commands waiting, first in
first out. -/
structure State where
  port1    : Port
  port2    : Port
  sender   : ToneSender
  ring     : RingUnit
  line     : LineMonitor
  loop     : LoopUnit
  chan     : Channel
  announce : Announce
  peers    : List Peer
  time     : TimeKeeping
  modem    : ModemPort
  hold     : Holding
  survey   : Survey
  log      : FaultLog
  resp     : Responder
  loader   : Loader
  lamps    : Lamps
  pending  : List Instr
  deriving DecidableEq, Repr

/-! ### After reset -/

/-- A port as a reset leaves it with its hook input at the break level (R1). -/
def Port.atReset : Port :=
  { st := .idle, cause := none, hook := .on, level := .brk, makeStart := none, breakStart := none, train := none,
    flashEnd := none, digitsSeen := 0, hashWin := none, mute := false, fifo := [], discards := 0, lockoutEnd := none,
    tone := .none, ann := none, pair := none, restartAt := none }

/-- The ring unit's part of a port as a reset leaves it (R25, R30, R31, R33, R39). -/
def PortRing.atReset : PortRing :=
  { admitted := false, demandTransfer := false, demandRecall := false, mode := .off, gateSince := none, cut := false,
    sendEnd := none, sent := false }

/-- The defaults of R182. -/
def Profile.defaults : Profile :=
  { policy1 := .always, policy2 := .always, delayedBursts := 2, dayStart := 6, dayEnd := 22, privacy := .join,
    announceInterval := 10, surveyInterval := 60, expectedOffset := 0, jointThreshold := 120, loopLimit := 2500,
    earthThreshold := 150, noiseThreshold := 10, startLevel := 4, maxLevel := 8, retrainBudget := 6 }

/-- The STATE placed in the start event of `State.reset` (R183). -/
def StateFields.atReset : StateFields :=
  { cause := .power, count := 0, port1 := .idle, port2 := .idle, loop := .opened, role := .quiet, braced := false,
    offer := none, took := none, clock := none, ownFaults := 0 }

/-- The station right after the start event (R183): station 1, modem strap set, port 2 fitted, a profile that reads
as the defaults (assumption 4), the pins at rest (assumption 5). -/
def State.reset : State :=
  { port1 := Port.atReset
    port2 := Port.atReset
    sender := { sender := .free, lastServed := .two }
    ring :=
      { burst := .quiet, burstSince := 0, voltage := false, call := .none, burstNo := 0, quietEnd := none,
        ring1 := PortRing.atReset, ring2 := PortRing.atReset, callerEnd := none, windowOpened := false,
        receiving := false, record := none, checkFails := 0, overwrites := 0 }
    line := { st := .idle, useRun := 0, lowRun := 0, goodRun := 0, drop := 0 }
    loop :=
      { loop := .opened, lead := none, recallState := .none, park := none, lastParkId := 15, incoming := none, took := none }
    chan :=
      { noticeSlot := none, callSlot := none, faultSlot := none, stateSlot := some StateFields.atReset,
        surveySlot := none, flight := none, began := 0, tx := .waiting, window := 8,
        count := Config.backoffDraw 0 % 8, gapMet := false, quietFrom := some 0, jamEnd := some 30000,
        carrier := false, rx := .hunt, slots := [], clashEnd := none, sent := 0, collisions := 0, checkFails := 0,
        formatErrs := 0, overruns := 0, received := 0, draws := 1 }
    announce := { timerEnd := some 10000, count := 1 }
    peers := []
    time := { uptime := 0, clock := none, secTaken := 0 }
    modem :=
      { slot := none, queue := [], link := .down, level := none, faultPresent := false, braced := false,
        linkUp := false, requestWaiting := false, request := none }
    hold :=
      { role := .quiet, level := 4, upSince := none, s16 := none, window := none, history := [],
        settleEnd := some 17000, trainingEnd := none, underWay := false, retrainEnd := none, nightMark := false,
        stepLevel := none, stepEarlier := none, watch := none }
    survey :=
      { stage := .idle, dueEnd := some 120000, deferrals := 0, lead := none,
        sums := { openV := 0, loadV := 0, loadI := 0, earthTip := 0, earthRing := 0, noise := 0 },
        taken := 0, sampleAt := 0, loadOn := false, aborts := 0, number := 0, figures := none, collection := [],
        baseline := none }
    log :=
      { records := [], seqCounter := 1, overflow := 0, run := none, pendingRun := none, reference := none,
        snapshotAsked := false }
    resp := { overwrites := 0, outstanding := none, pendingMark := none, restartEnd := none }
    loader :=
      { station := 1, modem := true, port2 := true, profile := Profile.defaults, source := .read, cause := .power,
        count := 0 }
    lamps := { line := .off, fault := false }
    pending := [] }

end Sys2Proof.Machine
end

