-- ==== Sys2Proof/Machine/Ops.lean ====
section
/-! DEFINITION. Named operations every block uses: the uptime and its deadlines, saturating counts, the two ports and
their parts of the ring unit, one update per block, and what the other blocks read of the station (R93, R94, R68). -/

namespace Sys2Proof.Machine

/-! ### Time (R93, R94) -/

/-- The uptime in milliseconds. -/
def State.now (s : State) : Nat := s.time.uptime

/-- The whole seconds of uptime, which records, frames and answers carry (R93). -/
def State.secs (s : State) : Nat := s.time.uptime / 1000

/-- R94: a timer expires when uptime reaches its deadline; a stopped timer has none. -/
def expired (deadline : Option Nat) (now : Nat) : Bool :=
  match deadline with
  | some d => decide (d ≤ now)
  | none => false

/-- R94: the deadline of a timer of `ms` milliseconds started now. -/
def State.deadline (s : State) (ms : Nat) : Option Nat := some (s.now + ms)

/-- The greatest count of milliseconds: the seconds count holds at 4,294,967,295 (R93, assumption 1). -/
def uptimeMax : Nat := 4294967295999

/-- A counter described as saturating at `top` (00, Counters and limits). -/
def satInc (top n : Nat) : Nat := if n < top then n + 1 else top

/-- A number brought into `lo`–`hi`. -/
def clamp (lo hi n : Nat) : Nat := if n < lo then lo else if hi < n then hi else n

/-! ### The station -/

/-- The own station number (R180). -/
def State.own (s : State) : Nat := s.loader.station

/-- The modem strap (R180). -/
def State.isModem (s : State) : Bool := s.loader.modem

/-- The profile record (R182). -/
def State.profile (s : State) : Profile := s.loader.profile

/-- The number of a port, as a fault's qualifier carries it (R150). -/
def portNum : PortId → Nat
  | .one => 1
  | .two => 2

/-- The other own port. -/
def otherPort : PortId → PortId
  | .one => .two
  | .two => .one

/-! ### One update per block -/

/-- Change the line-side tone sender alone. -/
def State.onSender (f : ToneSender → ToneSender) (s : State) : State :=
  { s with sender := f s.sender }

/-- Change the ring and cadence unit alone. -/
def State.onRing (f : RingUnit → RingUnit) (s : State) : State :=
  { s with ring := f s.ring }

/-- Change the line monitor alone. -/
def State.onLine (f : LineMonitor → LineMonitor) (s : State) : State :=
  { s with line := f s.line }

/-- Change the loop and park unit alone. -/
def State.onLoop (f : LoopUnit → LoopUnit) (s : State) : State :=
  { s with loop := f s.loop }

/-- Change the station channel transceiver alone. -/
def State.onChan (f : Channel → Channel) (s : State) : State :=
  { s with chan := f s.chan }

/-- Change the STATE announcement alone. -/
def State.onAnnounce (f : Announce → Announce) (s : State) : State :=
  { s with announce := f s.announce }

/-- Change the peer table alone. -/
def State.onPeers (f : List Peer → List Peer) (s : State) : State :=
  { s with peers := f s.peers }

/-- Change the time keeping alone. -/
def State.onTime (f : TimeKeeping → TimeKeeping) (s : State) : State :=
  { s with time := f s.time }

/-- Change the modem port alone. -/
def State.onModem (f : ModemPort → ModemPort) (s : State) : State :=
  { s with modem := f s.modem }

/-- Change the holding controller alone. -/
def State.onHold (f : Holding → Holding) (s : State) : State :=
  { s with hold := f s.hold }

/-- Change the survey unit alone. -/
def State.onSurvey (f : Survey → Survey) (s : State) : State :=
  { s with survey := f s.survey }

/-- Change the fault log alone. -/
def State.onLog (f : FaultLog → FaultLog) (s : State) : State :=
  { s with log := f s.log }

/-- Change the management responder alone. -/
def State.onResp (f : Responder → Responder) (s : State) : State :=
  { s with resp := f s.resp }

/-- Change the profile loader alone. -/
def State.onLoader (f : Loader → Loader) (s : State) : State :=
  { s with loader := f s.loader }

/-- Change the lamps alone. -/
def State.onLamps (f : Lamps → Lamps) (s : State) : State :=
  { s with lamps := f s.lamps }

/-- Change the queue of commands alone. -/
def State.onPending (f : List Instr → List Instr) (s : State) : State :=
  { s with pending := f s.pending }

/-! ### The ports -/

/-- The record of a port. -/
def State.port (s : State) : PortId → Port
  | .one => s.port1
  | .two => s.port2

/-- Change the record of one port alone. -/
def State.onPort (p : PortId) (f : Port → Port) (s : State) : State :=
  match p with
  | .one => { s with port1 := f s.port1 }
  | .two => { s with port2 := f s.port2 }

/-- A port's part of the ring unit. -/
def RingUnit.of (r : RingUnit) : PortId → PortRing
  | .one => r.ring1
  | .two => r.ring2

/-- A port's part of the ring unit. -/
def State.ringOf (s : State) (p : PortId) : PortRing := s.ring.of p

/-- Change one port's part of the ring unit alone. -/
def State.onRingOf (p : PortId) (f : PortRing → PortRing) (s : State) : State :=
  match p with
  | .one => s.onRing fun r => { r with ring1 := f r.ring1 }
  | .two => s.onRing fun r => { r with ring2 := f r.ring2 }

/-- A fitted port (R1). -/
def State.fitted (s : State) (p : PortId) : Bool := decide ((s.port p).st ≠ .absent)

/-- Some own port is CONNECTED (R77). -/
def State.someConnected (s : State) : Bool :=
  decide (s.port1.st = .connected) || decide (s.port2.st = .connected)

/-- An own port that leaves the pair alone (R130, R138). -/
def PortState.quiet (st : PortState) : Bool := decide (st = .idle) || decide (st = .absent)

/-- Every own port IDLE or ABSENT (R130). -/
def State.portsQuiet (s : State) : Bool := s.port1.st.quiet && s.port2.st.quiet

/-! ### What a PRESENT peer shows (R68) -/

/-- The loop state a peer shows, if it shows one. -/
def Peer.showsLoop (e : Peer) : Option LoopState :=
  if e.present then e.statePart.map fun p => p.1.loop else none

/-- The role a peer shows, if it shows one. -/
def Peer.showsRole (e : Peer) : Option Role :=
  if e.present then e.statePart.map fun p => p.1.role else none

/-- A peer showing its loop CLOSED or HOLD. -/
def Peer.inUse (e : Peer) : Bool :=
  decide (e.showsLoop = some .closed) || decide (e.showsLoop = some .hold)

/-- A peer showing TRAINING or HOLDING. -/
def Peer.holder (e : Peer) : Bool :=
  decide (e.showsRole = some .training) || decide (e.showsRole = some .holding)

/-- A PRESENT peer shows its loop CLOSED or HOLD (R8, R123, R130). -/
def State.peerInUse (s : State) : Bool := s.peers.any Peer.inUse

/-- The entry of a station, if the table has one (R63). -/
def State.peer (s : State) (n : Nat) : Option Peer := s.peers.find? fun e => decide (e.number = n)

/-- Station `n` is a PRESENT peer (R84). -/
def State.peerPresent (s : State) (n : Nat) : Bool := s.peers.any fun e => decide (e.number = n) && e.present

/-! ### Lists -/

/-- Insert before the first element that does not come before it; ties keep the order of the list being sorted. -/
def insertBy {α : Type} (le : α → α → Bool) (x : α) : List α → List α
  | [] => [x]
  | y :: ys => if le x y then x :: y :: ys else y :: insertBy le x ys

/-- A stable sort by insertion. -/
def sortBy {α : Type} (le : α → α → Bool) : List α → List α
  | [] => []
  | x :: xs => insertBy le x (sortBy le xs)

end Sys2Proof.Machine
end

