-- ==== Sys2Proof/Machine/FaultLog.lean ====
section
/-! DEFINITION. The fault log (09): classes, raising and clearing, the FAULT snapshot, localisation's arithmetic. -/

namespace Sys2Proof.Machine

/-! ### Classes (R150) -/

/-- The class numbers of R150. -/
def FaultClass.num : FaultClass → Nat
  | .lineDown => 1 | .loopHigh => 2 | .joint => 3 | .earth => 4 | .noise => 5 | .linkLost => 6 | .retrainRest => 7
  | .modemSilent => 8 | .handsetLockout => 9 | .ringFault => 10 | .peerSilent => 11 | .numberClash => 12
  | .channelJam => 13 | .surveyBlocked => 14 | .profileDefault => 15

/-- The fifteen classes in number order. -/
def FaultClass.all : List FaultClass :=
  [.lineDown, .loopHigh, .joint, .earth, .noise, .linkLost, .retrainRest, .modemSilent, .handsetLockout, .ringFault,
   .peerSilent, .numberClash, .channelJam, .surveyBlocked, .profileDefault]

/-- The class of a class code; none outside 1–15. -/
def FaultClass.ofNum (n : Nat) : Option FaultClass := FaultClass.all.find? fun c => decide (c.num = n)

/-- The range of the value a class carries (R150); none for a class that carries none. -/
def FaultClass.valueRange : FaultClass → Option (Nat × Nat)
  | .loopHigh => some (0, 9999)
  | .joint => some (0, 9999)
  | .earth => some (0, 1000)
  | .noise => some (0, 15)
  | .linkLost => some (1, 8)
  | _ => none

/-! ### Records -/

/-- An ACTIVE record. -/
def Record.isActive (r : Record) : Bool := decide (r.st = .active)

/-- A record with a key (09, The fault record). -/
def Record.hasKey (r : Record) (c : FaultClass) (origin : Nat) (qual : Option Nat) : Bool :=
  decide (r.cls = c) && decide (r.origin = origin) && decide (r.qual = qual)

/-- An ACTIVE record with a key. -/
def Record.activeKey (c : FaultClass) (origin : Nat) (qual : Option Nat) (r : Record) : Bool :=
  r.isActive && r.hasKey c origin qual

/-- The log holds an ACTIVE record with the key (R151, R154). -/
def FaultLog.hasActive (l : FaultLog) (c : FaultClass) (origin : Nat) (qual : Option Nat) : Bool :=
  l.records.any (Record.activeKey c origin qual)

/-- The log holds some ACTIVE record, of any source (R101, R179). -/
def FaultLog.anyActive (l : FaultLog) : Bool := l.records.any Record.isActive

/-- The active own fault count (R60): the ACTIVE records of source OWN. -/
def FaultLog.ownActive (l : FaultLog) : Nat :=
  (l.records.filter fun r => r.isActive && decide (r.source = .own)).length

/-- R153: the number after `n`, wrapping from 65535 to 1. -/
def seqAfter (n : Nat) : Nat := if 65535 ≤ n then 1 else n + 1

/-- R153: the counter moves on past every value still held. The first argument bounds the moves: at most 32 records
are held. -/
def freeSeq (held : List Nat) : Nat → Nat → Nat
  | 0, n => n
  | fuel + 1, n => if held.contains n then freeSeq held fuel (seqAfter n) else n

/-- R155: the log with room for one record; none when all 32 are ACTIVE. -/
def makeRoom (rs : List Record) : Option (List Record) :=
  if rs.length < 32 then some rs
  else if rs.any fun r => decide (r.st = .cleared) && r.reported then
    some (rs.eraseP fun r => decide (r.st = .cleared) && r.reported)
  else if rs.any fun r => decide (r.st = .cleared) then some (rs.eraseP fun r => decide (r.st = .cleared))
  else none

/-- R152: the first day-clock stamp a record created now takes. -/
def State.stampNow (s : State) : Option Stamp :=
  s.time.clock.map fun c => { month := c.month, day := c.day, hour := c.hour, minute := c.minute }

/-- R151: the record after a recurrence at `now` seconds. -/
def Record.recur (src : Source) (value : Option Nat) (count now : Nat) (r : Record) : Record :=
  { r with
    count := if src = .mirrored then count else satInc 255 r.count
    last := now
    value := value.or r.value }

/-- R151 to R153, R155: a raise with a key, a source, a value where the class carries one, and the count a snapshot
carries (1 for the others). -/
def raise (c : FaultClass) (origin : Nat) (qual : Option Nat) (src : Source) (value : Option Nat) (count : Nat)
    (s : State) : State :=
  if s.log.hasActive c origin qual then
    s.onLog fun l =>
      { l with
        records := l.records.map fun r =>
          if Record.activeKey c origin qual r then r.recur src value count s.secs else r
        snapshotAsked := l.snapshotAsked ||
          l.records.any fun r => Record.activeKey c origin qual r && decide (r.source = .own) }
  else
    match makeRoom s.log.records with
    | none => s.onLog fun l => { l with overflow := satInc 65535 l.overflow }
    | some kept =>
      let new : Record :=
        { seq := s.log.seqCounter, cls := c, origin := origin, qual := qual, source := src, st := .active,
          reported := false, first := s.secs, last := s.secs, stamp := s.stampNow,
          count := if src = .mirrored then count else 1, value := value }
      s.onLog fun l =>
        { l with
          records := kept ++ [new]
          seqCounter := freeSeq ((kept ++ [new]).map Record.seq) 33 (seqAfter l.seqCounter)
          snapshotAsked := l.snapshotAsked || decide (src = .own) }

/-- R154: a clear with a key. -/
def clear (c : FaultClass) (origin : Nat) (qual : Option Nat) (s : State) : State :=
  s.onLog fun l =>
    { l with
      records := l.records.map fun r =>
        if Record.activeKey c origin qual r then { r with st := .cleared, reported := false, last := s.secs } else r
      snapshotAsked := l.snapshotAsked ||
        l.records.any fun r => Record.activeKey c origin qual r && decide (r.source = .own) }

/-- R150: an own block raises with origin the own station. -/
def raiseOwn (c : FaultClass) (qual : Option Nat) (value : Option Nat) (s : State) : State :=
  raise c s.own qual .own value 1 s

/-- An own block clears with origin the own station. -/
def clearOwn (c : FaultClass) (qual : Option Nat) (s : State) : State := clear c s.own qual s

/-! ### The FAULT snapshot (R157) -/

/-- R157: the order of a snapshot's list. Equal records keep the order of creation, which is that of sequence. -/
def Record.listedBefore (a b : Record) : Bool :=
  if a.first ≠ b.first then decide (a.first < b.first)
  else if a.cls ≠ b.cls then decide (a.cls.num < b.cls.num)
  else decide (a.qual.getD 0 ≤ b.qual.getD 0)

/-- R157: the entry of a record. -/
def Record.entry (r : Record) : FaultEntry :=
  { cls := r.cls.num, qual := r.qual, count := r.count, value := r.value }

/-- R157: the snapshot as the log now stands. -/
def FaultLog.snapshot (l : FaultLog) : Snapshot :=
  let own := sortBy Record.listedBefore (l.records.filter fun r => r.isActive && decide (r.source = .own))
  { entries := (own.take 6).map Record.entry, more := decide (6 < own.length) }

/-! ### Mirroring (R159 to R161) -/

/-- R159: the judgement of one entry; none is skipped. -/
def FaultEntry.judge (e : FaultEntry) : Option (FaultClass × FaultEntry) :=
  match FaultClass.ofNum e.cls with
  | none => none
  | some .joint => none
  | some c =>
    let value :=
      match c.valueRange, e.value with
      | some (lo, hi), some v => some (clamp lo hi v)
      | _, _ => none
    let kept : FaultEntry := { e with count := if e.count = 0 then 1 else e.count, value := value }
    let portQual := e.qual = some 1 ∨ e.qual = some 2
    let stationQual := ∃ n ∈ e.qual, 1 ≤ n ∧ n ≤ 8
    if c = .handsetLockout ∨ c = .ringFault then (if portQual then some (c, kept) else none)
    else if c = .peerSilent then (if stationQual then some (c, kept) else none)
    else some (c, { kept with qual := none })

/-- R160: the raises of the kept entries, in the order of the list. -/
def mirrorRaises (sender : Nat) : List (FaultClass × FaultEntry) → State → State
  | [], s => s
  | (c, e) :: rest, s => mirrorRaises sender rest (raise c sender e.qual .mirrored e.value e.count s)

/-- R161: the ACTIVE MIRRORED records of the sender that the kept entries do not list are cleared. -/
def mirrorClears (sender : Nat) (kept : List (FaultClass × FaultEntry)) (s : State) : State :=
  s.onLog fun l =>
    { l with
      records := l.records.map fun r =>
        if r.isActive && decide (r.source = .mirrored) && decide (r.origin = sender) &&
            !(kept.any fun k => decide (k.1 = r.cls) && decide (k.2.qual = r.qual))
        then { r with st := .cleared, reported := false, last := s.secs } else r }

/-- R159 to R161: a snapshot from `sender` applied. -/
def mirror (sender : Nat) (f : Snapshot) (s : State) : State :=
  let kept := f.entries.filterMap FaultEntry.judge
  let raised := mirrorRaises sender kept s
  if f.more then raised else mirrorClears sender kept raised

/-! ### Localisation (R163 to R166) -/

/-- R164: a set of figures `age` seconds old, as an eligible set. -/
def Figures.eligible (f : Figures) (station age : Nat) : Option RunSet :=
  if 7200 < age ∨ f.atLimit then none
  else f.feed.map fun rf => { station := station, feed := rf, offset := f.offset }

/-- R67, R174: an age in whole seconds of a time held in milliseconds (assumption 19). -/
def State.ageSecs (s : State) (t : Nat) : Nat := (s.now - t) / 1000

/-- R164: the eligible sets as they stand, in ascending station number. -/
def State.eligibleSets (s : State) : List RunSet :=
  let own := s.survey.figures.bind fun f => f.eligible s.own (s.secs - f.measured)
  let peers := s.peers.filterMap fun e =>
    e.figures.bind fun f => f.1.eligible e.number (s.ageSecs f.2)
  sortBy (fun a b => decide (a.station ≤ b.station)) (own.toList ++ peers)

/-- R165: the reference: the lowest feed resistance, and among equals the lower station number. -/
def reference : List RunSet → Option RunSet
  | [] => none
  | x :: xs =>
    match reference xs with
    | none => some x
    | some r =>
      if r.feed < x.feed ∨ (r.feed = x.feed ∧ r.station < x.station) then some r else some x

/-- R165: the excess of a set over the reference's feed resistance. -/
def RunSet.excess (r : RunSet) (ref : Nat) : Nat := r.feed - ref - r.offset

/-- R165: the outcome for JOINT with the set's origin. -/
def applyOutcome (threshold ref : Nat) (r : RunSet) (s : State) : State :=
  if threshold < r.excess ref then raise .joint r.station none .localised (some (r.excess ref)) 1 s
  else if r.excess ref ≤ threshold - 30 then clear .joint r.station none s
  else s

/-- R166: the outcomes, station by station. -/
def applyOutcomes (threshold ref : Nat) : List RunSet → State → State
  | [], s => s
  | r :: rest, s => applyOutcomes threshold ref rest (applyOutcome threshold ref r s)

/-- R57: the receive slot held PROCESSING is freed. -/
def freeProcessing (s : State) : State :=
  s.onChan fun c =>
    { c with slots := c.slots.filter fun x => match x with | .processing _ => false | _ => true }

/-- R163, R164: a run begins; with fewer than two sets it ends at once and changes no record. -/
def beginRun (holdsSlot : Bool) (s : State) : State :=
  let sets := s.eligibleSets
  if sets.length < 2 then (if holdsSlot then freeProcessing s else s)
  else s.onLog fun l =>
    { l with run := some { sets := sets, ends := s.now + 50 * sets.length, holdsSlot := holdsSlot } }

/-- R163: a run is asked for; while one is in progress the pending run is set, or joined. -/
def askRun (holdsSlot : Bool) (s : State) : State :=
  match s.log.run with
  | some _ => s.onLog fun l => { l with pendingRun := some (l.pendingRun.getD false || holdsSlot) }
  | none => beginRun holdsSlot s

/-- R166: the run in progress ends. -/
def endRun (s : State) : State :=
  match s.log.run with
  | none => s
  | some run =>
    match reference run.sets with
    | none => s.onLog fun l => { l with run := none }
    | some ref =>
      let applied := applyOutcomes s.profile.jointThreshold ref.feed run.sets s
      let marked := applied.onLog fun l =>
        { l with run := none, reference := some { station := ref.station, feed := ref.feed, uptime := s.secs } }
      let freed := if run.holdsSlot then freeProcessing marked else marked
      match freed.log.pendingRun with
      | none => freed
      | some holds => beginRun holds (freed.onLog fun l => { l with pendingRun := none })

end Sys2Proof.Machine
end

