-- ==== Sys2Proof/Machine/Formats.lean ====
section
/-! DEFINITION. The byte layouts of chapter 12: what the station writes of each record, and how it reads what it
receives, with the values taken for fields out of range (R65 to R67, R182, R187 to R195). -/

namespace Sys2Proof.Machine

/-! ### Bytes -/

/-- One byte. -/
def b8 (n : Nat) : Byte := BitVec.ofNat 8 n

/-- Two bytes, high byte first (12). -/
def be16 (n : Nat) : List Byte := [b8 (n / 256), b8 n]

/-- Three bytes, high byte first. -/
def be24 (n : Nat) : List Byte := [b8 (n / 65536), b8 (n / 256), b8 n]

/-- Four bytes, high byte first. -/
def be32 (n : Nat) : List Byte := [b8 (n / 16777216), b8 (n / 65536), b8 (n / 256), b8 n]

/-- The byte at an offset. -/
def u8 (b : List Byte) (i : Nat) : Nat := (b.getD i 0).toNat

/-- The two bytes at an offset. -/
def u16 (b : List Byte) (i : Nat) : Nat := u8 b i * 256 + u8 b (i + 1)

/-- The four bytes at an offset. -/
def u32 (b : List Byte) (i : Nat) : Nat := u16 b i * 65536 + u16 b (i + 2)

/-- A mark as a number. -/
def bit (b : Bool) : Nat := if b then 1 else 0

/-- The first value of `all` whose code is `n`. -/
def ofCode {α : Type} (code : α → Nat) (all : List α) (n : Nat) : Option α := all.find? fun x => decide (code x = n)

/-! ### Codes (R187, R189, R190, R192, R194) -/

/-- R189. -/
def PortState.code : PortState → Nat
  | .absent => 0 | .idle => 1 | .ringing => 2 | .connected => 3 | .loc => 4 | .refused => 5 | .lockout => 6

/-- R189. -/
def LoopState.code : LoopState → Nat
  | .opened => 0 | .closed => 1 | .hold => 2

/-- R189. -/
def Role.code : Role → Nat
  | .absent => 0 | .quiet => 1 | .standby => 2 | .training => 3 | .holding => 4 | .recovering => 5 | .resting => 6

/-- R189. -/
def RestartCause.code : RestartCause → Nat
  | .power => 0 | .remote => 1 | .loc => 2

/-- R190. -/
def NoticeKind.code : NoticeKind → Nat
  | .loopClose => 1 | .loopOpen => 2 | .surveyLoad => 3 | .handover => 4

/-- R190. -/
def CallStep.code : CallStep → Nat
  | .offer => 1 | .withdrawn => 2 | .taken => 3

/-- R187. -/
def FrameKind.code : FrameKind → Nat
  | .state => 1 | .notice => 2 | .call => 3 | .fault => 4 | .survey => 5

/-- R187: the least body length of a kind. -/
def FrameKind.least : FrameKind → Nat
  | .state => 12 | .notice => 2 | .call => 3 | .fault => 1 | .survey => 15

/-- R196. -/
def Source.code : Source → Nat
  | .own => 0 | .mirrored => 1 | .localised => 2

/-- R196. -/
def RecState.code : RecState → Nat
  | .active => 0 | .cleared => 1

/-- R192. -/
def RingPolicy.code : RingPolicy → Nat
  | .always => 0 | .daytime => 1 | .delayed => 2 | .never => 3

/-- R192. -/
def Privacy.code : Privacy → Nat
  | .join => 0 | .priv => 1

/-- R65: a code that is none of the seven states is taken as ABSENT. -/
def portStateOf (n : Nat) : PortState :=
  (ofCode PortState.code [.absent, .idle, .ringing, .connected, .loc, .refused, .lockout] n).getD .absent

/-- R65: a code that is none of the three states is taken as OPEN. -/
def loopStateOf (n : Nat) : LoopState := (ofCode LoopState.code [.opened, .closed, .hold] n).getD .opened

/-- R65: a code that is none of the seven roles is taken as ABSENT. -/
def roleOf (n : Nat) : Role :=
  (ofCode Role.code [.absent, .quiet, .standby, .training, .holding, .recovering, .resting] n).getD .absent

/-- R65: a code that is none of the three causes is taken as POWER. -/
def causeOf (n : Nat) : RestartCause := (ofCode RestartCause.code [.power, .remote, .loc] n).getD .power

/-- R66, R79: an unknown kind is taken as LOOP_CLOSE. -/
def noticeKindOf (n : Nat) : NoticeKind :=
  (ofCode NoticeKind.code [.loopClose, .loopOpen, .surveyLoad, .handover] n).getD .loopClose

/-- R83: a step that is none of the three is not acted on. -/
def callStepOf (n : Nat) : Option CallStep := ofCode CallStep.code [.offer, .withdrawn, .taken] n

/-- R53, R188: a kind code of 0 or of 6–31 is unknown. -/
def frameKindOf (n : Nat) : Option FrameKind := ofCode FrameKind.code [.state, .notice, .call, .fault, .survey] n

/-! ### The frame (R42, R187, R188) -/

/-- R42: one bit into the check register of x^16 + x^12 + x^5 + 1. -/
def crcShift (r : Half) : Half := if r.msb then (r <<< 1) ^^^ 0x1021#16 else r <<< 1

/-- R188: one byte into the check register, most significant bit first. -/
def crcByte (r : Half) (b : Byte) : Half :=
  crcShift (crcShift (crcShift (crcShift (crcShift (crcShift (crcShift (crcShift
    (r ^^^ (b.setWidth 16 <<< 8)))))))))

/-- R42: the check over the bytes from kind and sender to the last body byte, from all ones, not inverted. -/
def frameCheck (bytes : List Byte) : Half := bytes.foldl crcByte 0xFFFF#16

/-- R187: the kind and sender byte, the station number less one in bits 2–0. -/
def kindSenderByte (k : FrameKind) (station : Nat) : Byte := b8 (k.code * 8 + (station - 1))

/-- The body length of a frame of the station's own (R189 to R191). -/
def Frame.bodyLength : Frame → Nat
  | .state _ => 12
  | .notice _ _ => 2
  | .call _ _ _ => 3
  | .fault f => 1 + 5 * f.entries.length
  | .survey _ => 15

/-- The kind of a frame. -/
def Frame.kind : Frame → FrameKind
  | .state _ => .state
  | .notice _ _ => .notice
  | .call _ _ _ => .call
  | .fault _ => .fault
  | .survey _ => .survey

/-! ### STATE (R189) -/

/-- R189: a park offer or took-transfer byte; 0 is absent. -/
def pairByte : Option (Nat × Nat) → Byte
  | none => 0
  | some (station, parkId) => b8 (station * 16 + parkId)

/-- R65, R189: target or parker outside 1–8, or id outside 1–15, is absent. -/
def pairOf (b : Nat) : Option (Nat × Nat) :=
  if 1 ≤ b / 16 ∧ b / 16 ≤ 8 ∧ 1 ≤ b % 16 then some (b / 16, b % 16) else none

/-- R189: the five day clock bytes; all 0 when absent. -/
def clockBytes : Option CarriedClock → List Byte
  | none => [0, 0, 0, 0, 0]
  | some c => [b8 c.quality, b8 c.month, b8 c.day, b8 c.hour, b8 c.minute]

/-- R189: the STATE body. -/
def StateFields.bytes (f : StateFields) : List Byte :=
  [b8 f.cause.code, b8 f.count, b8 (f.port1.code * 16 + f.port2.code),
   b8 (bit f.braced * 128 + f.role.code * 16 + f.loop.code), pairByte f.offer, pairByte f.took]
  ++ clockBytes f.clock ++ [b8 f.ownFaults]

/-- R65, R189: a STATE body as stored, each field out of range taken as R65 gives. -/
def readState (b : List Byte) : StateFields :=
  { cause := causeOf (u8 b 0)
    count := u8 b 1
    port1 := portStateOf (u8 b 2 / 16)
    port2 := portStateOf (u8 b 2 % 16)
    loop := loopStateOf (u8 b 3 % 4)
    role := roleOf (u8 b 3 / 16 % 8)
    braced := decide (128 ≤ u8 b 3)
    offer := pairOf (u8 b 4)
    took := pairOf (u8 b 5)
    clock :=
      if u8 b 6 = 0 then none
      else some { quality := u8 b 6, month := u8 b 7, day := u8 b 8, hour := u8 b 9, minute := u8 b 10 }
    ownFaults := if 32 < u8 b 11 then 32 else u8 b 11 }

/-! ### NOTICE and CALL (R190) -/

/-- R66: a duration of 0 is taken as 1, and one above 50 as 50. -/
def noticeDur (d : Nat) : Nat := clamp 1 50 d

/-- R66: the kind and duration of a received NOTICE. -/
def readNotice (b : List Byte) : NoticeKind × Nat := (noticeKindOf (u8 b 0), noticeDur (u8 b 1))

/-- R83: the step, named station and park id of a received CALL that may be acted on. -/
def readCall (b : List Byte) : Option (CallStep × Nat × Nat) :=
  if 1 ≤ u8 b 1 ∧ u8 b 1 ≤ 8 ∧ 1 ≤ u8 b 2 ∧ u8 b 2 ≤ 15 then
    (callStepOf (u8 b 0)).map fun step => (step, u8 b 1, u8 b 2)
  else none

/-! ### FAULT (R190) -/

/-- R190: an optional two-byte value, 0xFFFF absent. -/
def opt16 (v : Option Nat) : List Byte := be16 (v.getD 0xFFFF)

/-- R190: the two bytes at an offset as an optional value. -/
def readOpt16 (b : List Byte) (i : Nat) : Option Nat := if u16 b i = 0xFFFF then none else some (u16 b i)

/-- R190: one entry. -/
def FaultEntry.bytes (e : FaultEntry) : List Byte :=
  [b8 e.cls, b8 (e.qual.getD 0), b8 e.count] ++ opt16 e.value

/-- R190: the FAULT body. -/
def Snapshot.bytes (f : Snapshot) : List Byte :=
  b8 (bit f.more * 128 + f.entries.length) :: f.entries.flatMap FaultEntry.bytes

/-- R190: the entry at an offset. -/
def readEntry (b : List Byte) (i : Nat) : FaultEntry :=
  { cls := u8 b i
    qual := if u8 b (i + 1) = 0 then none else some (u8 b (i + 1))
    count := u8 b (i + 2)
    value := readOpt16 b (i + 3) }

/-- R159, R190: the entries that the body holds whole, up to the number given, a number above 6 taken as 6. -/
def readSnapshot (b : List Byte) : Snapshot :=
  let named := u8 b 0 % 128
  let n := min (if 6 < named then 6 else named) ((b.length - 1) / 5)
  { entries := (List.range n).map fun k => readEntry b (1 + 5 * k), more := decide (128 ≤ u8 b 0) }

/-! ### SURVEY and the figures block (R191) -/

/-- R191: the figures block. -/
def Figures.bytes (f : Figures) : List Byte :=
  b8 f.number :: (be32 f.measured ++ be16 f.vOpen ++ opt16 f.feed ++ [b8 (bit f.atLimit)] ++ opt16 f.imbalance
    ++ [b8 f.grade] ++ be16 f.offset)

/-- R67, R188: a figures block as stored, each field out of range clamped. -/
def readFigures (b : List Byte) : Figures :=
  { number := u8 b 0
    measured := u32 b 1
    vOpen := min 4095 (u16 b 5)
    feed := (readOpt16 b 7).map fun r => min 9999 r
    atLimit := decide (u8 b 9 % 2 = 1) || decide (9999 < u16 b 7 ∧ u16 b 7 ≠ 0xFFFF)
    imbalance := (readOpt16 b 10).map fun i => min 1000 i
    grade := min 15 (u8 b 12)
    offset := min 2000 (u16 b 13) }

/-! ### The whole frame -/

/-- The body of a frame of the station's own (R189 to R191). -/
def Frame.body : Frame → List Byte
  | .state f => f.bytes
  | .notice k d => [b8 k.code, b8 d]
  | .call step station parkId => [b8 step.code, b8 station, b8 parkId]
  | .fault f => f.bytes
  | .survey f => f.bytes

/-- R187: the two bytes of the sync word. -/
def syncWord : List Byte := [0xB3, 0x4D]

/-- R187: the bytes of a frame sent by `station`, preamble to check. -/
def Frame.bytes (station : Nat) (f : Frame) : List Byte :=
  let covered := kindSenderByte f.kind station :: b8 f.body.length :: f.body
  [0xAA, 0xAA] ++ syncWord ++ covered ++ be16 (frameCheck covered).toNat

/-- R188: the bits of a frame on the pair, each byte least significant bit first. -/
def wireBits (bytes : List Byte) : List Bool := bytes.flatMap fun b => (List.range 8).map fun i => b.getLsbD i

/-- R42: the transmission lasts (8 + L) × 10/3 ms; whether it is over at `now` when it began at `began`. -/
def transmissionOver (f : Frame) (began now : Nat) : Bool := decide (10 * (8 + f.bodyLength) ≤ 3 * (now - began))

/-! ### The profile record (R182, R192, R193) -/

/-- R181: the memory answers all 24 bytes and they sum to 0 modulo 256. -/
def profileGood (memory : List Byte) : Bool :=
  decide (memory.length = 24) && decide ((memory.map BitVec.toNat).sum % 256 = 0)

/-- R182: the ring policy of a code; a code that names none is ALWAYS. -/
def policyOf (n : Nat) : RingPolicy := (ofCode RingPolicy.code [.always, .daytime, .delayed, .never] n).getD .always

/-- R182: the privacy of a code; a code that names none is JOIN. -/
def privacyOf (n : Nat) : Privacy := (ofCode Privacy.code [.join, .priv] n).getD .join

/-- R182, R192: the fields of a profile that is not refused, each taken into its range, and the start level lowered
to the max level. -/
def readProfile (m : List Byte) : Profile :=
  let maxLevel := clamp 1 8 (u8 m 18)
  { policy1 := policyOf (u8 m 0)
    policy2 := policyOf (u8 m 1)
    delayedBursts := clamp 1 4 (u8 m 2)
    dayStart := clamp 0 23 (u8 m 3)
    dayEnd := clamp 0 23 (u8 m 4)
    privacy := privacyOf (u8 m 5)
    announceInterval := clamp 5 30 (u8 m 6)
    surveyInterval := clamp 15 240 (u8 m 7)
    expectedOffset := clamp 0 2000 (u16 m 8)
    jointThreshold := clamp 50 1000 (u16 m 10)
    loopLimit := clamp 1000 6000 (u16 m 12)
    earthThreshold := clamp 50 500 (u16 m 14)
    noiseThreshold := clamp 4 15 (u8 m 16)
    startLevel := min (clamp 1 8 (u8 m 17)) maxLevel
    maxLevel := maxLevel
    retrainBudget := clamp 2 6 (u8 m 19) }

/-! ### Modem port records (R194) -/

/-- R194: the code and the argument of a command. -/
def Command.parts : Command → Nat × List Byte
  | .train l => (1, [b8 l])
  | .step l => (2, [b8 l])
  | .brace d => (3, be16 d)
  | .unbrace => (4, [])
  | .drop => (5, [])
  | .respond r => (6, r)

/-- R194: the command record as the modem reads it from the slot. -/
def Command.bytes (c : Command) : List Byte := b8 c.parts.1 :: (be16 c.parts.2.length ++ c.parts.2)

/-- R105, R195: a link state code that is none of the three is DOWN. -/
def linkOf (n : Nat) : Link := if n = 1 then .training else if n = 2 then .up else .down

end Sys2Proof.Machine
end

