-- ==== Sys2Proof/Machine/ModemPort.lean ====
section
/-! DEFINITION. The modem port (07): issuing a command under the coalescing of R103, the slot, the link state. -/

namespace Sys2Proof.Machine

/-- TRAIN or STEP. -/
def Command.isTrain : Command → Bool
  | .train _ => true
  | .step _ => true
  | _ => false

/-- BRACE or UNBRACE. -/
def Command.isBrace : Command → Bool
  | .brace _ => true
  | .unbrace => true
  | _ => false

/-- RESPOND. -/
def Command.isRespond : Command → Bool
  | .respond _ => true
  | _ => false

/-- R103: the queue after the removals that precede a command's joining. -/
def coalesce (c : Command) (q : List Command) : List Command :=
  match c with
  | .train _ => q.filter fun x => !x.isTrain
  | .step _ => q.filter fun x => !x.isTrain
  | .brace _ => q.filter fun x => !x.isBrace
  | .unbrace => q.filter fun x => !x.isBrace
  | .drop => q.filter Command.isRespond
  | .respond _ => q

/-- R169: the outstanding answer is lost, and NEXT's pending mark is dropped. -/
def answerLost (s : State) : State := s.onResp fun r => { r with outstanding := none, pendingMark := none }

/-- R102: while the slot is empty and the queue is not, the oldest command moves in. -/
def advanceSlot (s : State) : State :=
  match s.modem.slot, s.modem.queue with
  | none, c :: rest =>
    s.onModem fun m => { m with slot := some { cmd := c, waiting := true, deadline := s.now + 2000 }, queue := rest }
  | _, _ => s

/-- R102: a command joins the queue as its newest entry. -/
def joinQueue (c : Command) (q : List Command) (s : State) : State :=
  advanceSlot (s.onModem fun m => { m with queue := q ++ [c] })

/-- R101 to R103, R109: a command is issued. -/
def issue (c : Command) (s : State) : State :=
  if !s.isModem then s
  else if c.isRespond then
    if s.modem.link ≠ .up ∨ 4 ≤ s.modem.queue.length then answerLost s else joinQueue c s.modem.queue s
  else
    let q := coalesce c s.modem.queue
    if q.length < 4 then joinQueue c q s
    else
      let lost := if q.any Command.isRespond then answerLost s else s
      joinQueue c (q.eraseP Command.isRespond) lost

/-- R105: the port's link state; a change from UP discards every queued RESPOND. -/
def setLink (l : Link) (s : State) : State :=
  if s.modem.link = .up ∧ l ≠ .up then
    let lost := if s.modem.queue.any Command.isRespond then answerLost s else s
    lost.onModem fun m => { m with link := l, queue := m.queue.filter fun c => !c.isRespond }
  else s.onModem fun m => { m with link := l }

end Sys2Proof.Machine
end

