-- ==== Sys2Proof/Machine/SurveyOps.lean ====
section
/-! DEFINITION. The survey unit's shared operations (08): the abort, the due test, and the arithmetic of the figures. -/

namespace Sys2Proof.Machine

/-- R128: OPEN, LOAD, EARTH and NOISE are the measuring stages. -/
def Stage.measuring : Stage → Bool
  | .opened => true
  | .load => true
  | .earth => true
  | .noise => true
  | _ => false

/-- All sums 0. -/
def Sums.zero : Sums := { openV := 0, loadV := 0, loadI := 0, earthTip := 0, earthRing := 0, noise := 0 }

/-- R139, R140: the survey in progress ends without figures, its load disconnected, with the next deadline `due`. -/
def endSurvey (due : Option Nat) (v : Survey) : Survey :=
  { v with stage := .idle, dueEnd := due, lead := none, sums := Sums.zero, taken := 0, sampleAt := 0, loadOn := false,
           aborts := satInc 255 v.aborts }

/-- R139: the abort, retried 60 s + 7 s × own station number later. -/
def abortSurvey (s : State) : State := s.onSurvey (endSurvey (s.deadline (60000 + 7000 * s.own)))

/-- R138: an event that aborts a survey in a measuring stage. -/
def abortMeasuring (s : State) : State := if s.survey.stage.measuring then abortSurvey s else s

/-- R130: no peer NOTICE received in the last 2 s. -/
def State.noticeQuiet (s : State) : Bool :=
  s.peers.all fun e =>
    match e.notice with
    | some n => decide (2000 < s.now - n.receipt)
    | none => true

/-- R130: the due test. -/
def State.dueTest (s : State) : Bool :=
  s.portsQuiet && decide (s.loop.loop = .opened) && decide (s.line.st = .idle) && decide (s.ring.call ≠ .inProgress)
  && !s.peerInUse && !(s.peers.any fun e => decide (e.showsRole = some .training))
  && decide (s.hold.role ≠ .training) && s.noticeQuiet

/-! ### The arithmetic (R141 to R144) -/

/-- R141: the mean of sixteen samples, rounded half up. -/
def mean16 (sum : Nat) : Nat := (sum + 8) / 16

/-- R142: the feed resistance (absent: UNMEASURABLE) and the at-limit mark. -/
def feedResistance (vOpen vLoad cI : Nat) : Option Nat × Bool :=
  if cI < 200 then (none, false)
  else if vOpen ≤ vLoad then (some 0, false)
  else
    let r := ((vOpen - vLoad) * 6250 + cI / 2) / cI
    if r ≤ 9999 then (some r, false) else (some 9999, true)

/-- The difference of two numbers without sign. -/
def distance (a b : Nat) : Nat := (a - b) + (b - a)

/-- R143: the earth imbalance in permille. -/
def earthImbalance (vtg vrg : Nat) : Option Nat :=
  let total := vtg + vrg
  if total < 64 then none else some ((distance vtg vrg * 1000 + total / 2) / total)

/-- R144: the fifteen thresholds. -/
def noiseThresholds : List Nat := [2, 3, 4, 6, 8, 11, 16, 23, 32, 45, 64, 91, 128, 181, 256]

/-- R144: the noise level of a NOISE sum. -/
def noiseLevel (sum : Nat) : Nat := (sum + 128) / 256

/-- R144: the noise grade, the number of thresholds the level reaches or exceeds. -/
def noiseGrade (sum : Nat) : Nat := (noiseThresholds.filter fun t => decide (t ≤ noiseLevel sum)).length

/-- R145: the figures record of the survey now completing. -/
def State.computeFigures (s : State) : Figures :=
  let u := s.survey.sums
  let feed := feedResistance (mean16 u.openV) (mean16 u.loadV) (mean16 u.loadI)
  { number := s.survey.number
    measured := s.secs
    vOpen := mean16 u.openV
    feed := feed.1
    atLimit := feed.2
    imbalance := earthImbalance (mean16 u.earthTip) (mean16 u.earthRing)
    grade := noiseGrade u.noise
    offset := s.profile.expectedOffset }

/-- R147: the baseline step. -/
def baselineStep (f : Figures) (v : Survey) : Survey :=
  match v.baseline, f.imbalance with
  | none, some i =>
    let c := v.collection ++ [i]
    { v with collection := c, baseline := if c.length = 4 then some ((c.sum + 2) / 4) else none }
  | _, _ => v

/-- R148: LOOP_HIGH. -/
def testLoopHigh (f : Figures) (s : State) : State :=
  match f.feed with
  | none => s
  | some rf =>
    if s.profile.loopLimit < rf then raiseOwn .loopHigh none (some rf) s
    else if rf ≤ s.profile.loopLimit - 100 then clearOwn .loopHigh none s
    else s

/-- R148: EARTH. -/
def testEarth (f : Figures) (s : State) : State :=
  match f.imbalance, s.survey.baseline with
  | some i, some b =>
    if s.profile.earthThreshold < distance i b then raiseOwn .earth none (some i) s
    else if distance i b ≤ s.profile.earthThreshold / 2 then clearOwn .earth none s
    else s
  | _, _ => s

/-- R148: NOISE. -/
def testNoise (f : Figures) (s : State) : State :=
  if s.profile.noiseThreshold ≤ f.grade then raiseOwn .noise none (some f.grade) s
  else if f.grade ≤ s.profile.noiseThreshold - 2 then clearOwn .noise none s
  else s

end Sys2Proof.Machine
end

