-- ==== Sys2Proof/Machine/HoldingOps.lean ====
section
/-! DEFINITION. The holding controller's shared operations (07): roles, training, drops, the brace window, margin
smoothing, the night step-up. -/

namespace Sys2Proof.Machine

/-! ### Roles -/

/-- What leaving the present role does (R111, R112, R115, R116, R120, R125). -/
def leaveRole (s : State) : State :=
  match s.hold.role with
  | .absent => s
  | .quiet => s.onHold fun h => { h with settleEnd := none }
  | .standby => s
  | .training => s.onHold fun h => { h with trainingEnd := none }
  | .holding =>
    (s.onHold fun h => { h with window := none, s16 := none, watch := none, upSince := none }).onModem fun m =>
      { m with braced := false }
  | .recovering => s.onHold fun h => { h with retrainEnd := none }
  | .resting => clearOwn .retrainRest none s

/-- A change of role (R110). -/
def enterRole (r : Role) (s : State) : State := (leaveRole s).onHold fun h => { h with role := r }

/-- Some PRESENT peer shows TRAINING or HOLDING (R111). -/
def State.anyHolder (s : State) : Bool := s.peers.any Peer.holder

/-- A PRESENT peer with a lower number shows TRAINING or HOLDING (R112). -/
def State.lowerHolder (s : State) : Bool := s.peers.any fun e => e.holder && decide (e.number < s.own)

/-- R111: the settle time. -/
def State.settleTime (s : State) : Nat := 15000 + 2000 * s.own

/-- R111: entry to QUIET, and the review that follows at once. -/
def enterQuiet (s : State) : State :=
  let q := (enterRole .quiet s).onHold fun h => { h with settleEnd := s.deadline s.settleTime }
  if q.anyHolder then enterRole .standby q else q

/-- R116: entry to RESTING. -/
def enterResting (s : State) : State := raiseOwn .retrainRest none none (enterRole .resting s)

/-- R106, R117: TRAIN issued at a level. -/
def issueTrain (level : Nat) (s : State) : State :=
  let t := (enterRole .training s).onHold fun h =>
    { h with level := level, stepLevel := none, trainingEnd := s.deadline 120000, underWay := false,
             history := h.history ++ [s.secs] }
  abortMeasuring (issue (.train level) t)

/-- R106, R124: STEP issued at the present level plus 1. -/
def issueStep (s : State) : State :=
  let level := s.hold.level
  let t := (enterRole .training s).onHold fun h =>
    { h with stepLevel := some (level + 1), stepEarlier := some level, nightMark := true,
             trainingEnd := s.deadline 120000, underWay := false, history := h.history ++ [s.secs] }
  abortMeasuring (issue (.step (level + 1)) t)

/-- R111, R116: TRAIN while the history holds fewer than B stamps, else RESTING. -/
def trainOrRest (s : State) : State :=
  if s.hold.history.length < s.profile.retrainBudget then issueTrain s.hold.level s else enterResting s

/-- R113, R114: entry to HOLDING at the reported level. -/
def enterHolding (reported : Nat) (s : State) : State :=
  let h := (enterRole .holding s).onHold fun h =>
    { h with level := clamp 1 s.profile.maxLevel reported, upSince := some s.now, s16 := none }
  clearOwn .linkLost none h

/-- R113, R125: a training that ends with UP. -/
def trainingUp (reported : Nat) (s : State) : State :=
  let up := enterHolding reported s
  if s.hold.stepLevel.isSome then
    up.onHold fun h =>
      { h with watch := some { expiry := s.now + 600000, earlier := s.hold.stepEarlier.getD s.hold.level } }
  else up

/-- R104, R113, R115: RECOVERING at a level, with the retrain delay's end. -/
def enterRecovering (level delayEnd : Nat) (s : State) : State :=
  (enterRole .recovering s).onHold fun h => { h with level := level, retrainEnd := some delayEnd }

/-- R113: a training that fails. -/
def trainingFailed (s : State) : State :=
  let level := if s.hold.stepLevel.isSome then s.hold.level else max 1 (s.hold.level - 1)
  enterRecovering level (s.now + 2000) s

/-- R121: the smoothed margin of S16. -/
def smoothed (s16 : Nat) : Nat := (s16 + 8) / 16

/-- R115: the next level at a link drop. -/
def State.dropLevel (s : State) : Nat :=
  match s.hold.watch, s.hold.window, s.hold.s16 with
  | some w, _, _ => w.earlier
  | none, some _, _ => s.hold.level
  | none, none, some x => if smoothed x < 30 then max 1 (s.hold.level - 1) else s.hold.level
  | none, none, none => s.hold.level

/-- R115: the end of the retrain delay at a link drop. -/
def State.dropDelayEnd (s : State) : Nat :=
  match s.hold.window with
  | some w => w.ends + 1000
  | none => s.now + 2000

/-- R115: a link drop. -/
def linkDrop (s : State) : State :=
  let lost := raiseOwn .linkLost none (some s.hold.level) s
  enterRecovering s.dropLevel s.dropDelayEnd lost

/-- R111, R112: the review of the peer table. -/
def review (s : State) : State :=
  if !s.isModem then s
  else
    match s.hold.role with
    | .absent => s
    | .quiet => if s.anyHolder then enterRole .standby s else s
    | .standby => if s.anyHolder then s else enterQuiet s
    | .training => if s.lowerHolder then enterRole .standby (issue .drop s) else s
    | .holding => if s.lowerHolder then enterRole .standby (issue .drop s) else s
    | .recovering => if s.lowerHolder then enterRole .standby s else s
    | .resting => if s.lowerHolder then enterRole .standby s else s

/-! ### The brace window (R118 to R120) -/

/-- R119: a time of `ms` milliseconds in 100 ms units, rounded up. -/
def units100 (ms : Nat) : Nat := (ms + 99) / 100

/-- R118, R119: a notice of duration `dur` (100 ms units) reaches the controller. -/
def braceNotice (dur : Nat) (s : State) : State :=
  if s.hold.role ≠ .holding then s
  else
    let reach := s.now + 100 * dur
    match s.hold.window with
    | none =>
      let ends := min reach (s.now + 30000)
      let opened := (s.onHold fun h => { h with window := some { start := s.now, ends := ends } }).onModem fun m =>
        { m with braced := true }
      issue (.brace (units100 (ends - s.now))) opened
    | some w =>
      let ends := min (max w.ends reach) (w.start + 30000)
      if w.ends < ends then
        issue (.brace (units100 (ends - s.now))) (s.onHold fun h => { h with window := some { w with ends := ends } })
      else s

/-! ### Margin smoothing and the night step-up (R121 to R126) -/

/-- R121: S16 after a sample. -/
def nextS16 (s16 : Option Nat) (m : Nat) : Nat :=
  match s16 with
  | none => 16 * m
  | some x => ((x : Int) + ((16 * m : Int) - x).tdiv 8).toNat

/-- R123: the step test. -/
def State.stepTest (s : State) : Bool :=
  decide (s.hold.role = .holding) && decide (s.hold.window = none)
  && decide (s.hold.level < s.profile.maxLevel)
  && (match s.hold.upSince with | some u => decide (21600000 ≤ s.now - u) | none => false)
  && (match s.hold.s16 with | some x => decide (90 ≤ smoothed x) | none => false)
  && (match s.time.clock with | some c => decide (c.hour = 2 ∨ c.hour = 3) | none => false)
  && !s.hold.nightMark
  && decide (s.hold.history.length < s.profile.retrainBudget - 1)
  && !(decide (s.port1.st = .connected) || decide (s.port1.st = .loc))
  && !(decide (s.port2.st = .connected) || decide (s.port2.st = .loc))
  && !s.peerInUse && !s.survey.stage.measuring

/-- R126: the step-back test. -/
def stepBack (s : State) : State :=
  match s.hold.watch, s.hold.s16 with
  | some w, some x => if smoothed x < 30 then issueTrain w.earlier s else s
  | _, _ => s

/-- R121, R123, R126: a margin sample in HOLDING. -/
def marginSample (m : Nat) (s : State) : State :=
  let taken := s.onHold fun h => { h with s16 := some (nextS16 h.s16 m) }
  let back := stepBack taken
  if back.stepTest then issueStep back else back

/-- R122: a report of time keeping; outside the hours 2 and 3 the night mark clears. -/
def hourReport (s : State) : State :=
  match s.isModem, s.time.clock with
  | true, some c => if c.hour = 2 ∨ c.hour = 3 then s else s.onHold fun h => { h with nightMark := false }
  | _, _ => s

/-- R113 to R115, R121: a report of the modem port, with the link state before it. -/
def holdingReport (before link : Link) (level margin : Nat) (s : State) : State :=
  match s.hold.role with
  | .absent => s
  | .training =>
    if s.hold.underWay then
      match link with
      | .up => trainingUp level s
      | .down => trainingFailed s
      | .training => s
    else s
  | .holding =>
    match link with
    | .up => marginSample margin s
    | .down => linkDrop s
    | .training => linkDrop s
  | .recovering => if before ≠ .up ∧ link = .up then enterHolding level s else s
  | .resting => if before ≠ .up ∧ link = .up then enterHolding level s else s
  | .quiet => if before ≠ .up ∧ link = .up then issue .drop s else s
  | .standby => if before ≠ .up ∧ link = .up then issue .drop s else s

end Sys2Proof.Machine
end

