-- ==== Sys2Proof/Machine/ChannelOps.lean ====
section
/-! DEFINITION. The station channel's shared operations (03): placing frames, the wait, the choice, the reports to the
leads; and the beginning of a survey, which places a NOTICE. -/

namespace Sys2Proof.Machine

/-! ### Transmit slots (R43, R44) -/

/-- R43: some slot is pending. -/
def Channel.pending (c : Channel) : Bool :=
  c.noticeSlot.isSome || c.callSlot.isSome || c.faultSlot.isSome || c.stateSlot.isSome || c.surveySlot.isSome

/-- R49: some slot is pending or a frame is in flight. -/
def Channel.busy (c : Channel) : Bool := c.pending || c.flight.isSome

/-- The frame in flight is a NOTICE (R80, R132). -/
def Channel.noticeInFlight (c : Channel) : Bool :=
  match c.flight with
  | some (.notice _ _) => true
  | _ => false

/-- R41: the band detector reports carrier present: the signal of another source, or the station's own transmission
(assumption 46). -/
def Channel.carrierPresent (c : Channel) : Bool := c.carrier || c.flight.isSome

/-- R45: a wait begins: the draw, the gap not met, and the quiet counted from now on a quiet channel. -/
def startWait (s : State) : State :=
  s.onChan fun c =>
    { c with tx := .waiting, count := Config.backoffDraw c.draws % c.window, draws := c.draws + 1, gapMet := false,
             quietFrom := if c.carrierPresent then none else some s.now }

/-- R43, R45, R49: a frame is put into a slot by `put`. -/
def place (put : Channel → Channel) (s : State) : State :=
  let placed := s.onChan put
  let timed := if s.chan.busy then placed else placed.onChan fun c => { c with jamEnd := s.deadline 30000 }
  if s.chan.tx = .idle then startWait timed else timed

/-- R44: the NOTICE the slot holds after a placement. -/
def mergeNotice (slot : Option (NoticeKind × Nat)) (k : NoticeKind) (d : Nat) : NoticeKind × Nat :=
  match slot with
  | some (_, older) => (k, max older d)
  | none => (k, d)

/-- R44: a NOTICE placed, and handed at once to the own holding controller as the slot then holds it. -/
def placeNotice (k : NoticeKind) (d : Nat) (s : State) : State :=
  let merged := mergeNotice s.chan.noticeSlot k d
  let placed := place (fun c => { c with noticeSlot := some merged }) s
  if s.isModem then braceNotice merged.2 placed else placed

/-- R83: a CALL placed. -/
def placeCall (step : CallStep) (station parkId : Nat) (s : State) : State :=
  place (fun c => { c with callSlot := some (step, station, parkId) }) s

/-- R46: the first pending slot in send order, and the transceiver with that slot emptied. -/
def chooseFrame (c : Channel) : Option (Frame × Channel) :=
  match c.noticeSlot, c.callSlot, c.faultSlot, c.stateSlot, c.surveySlot with
  | some (k, d), _, _, _, _ => some (.notice k d, { c with noticeSlot := none })
  | none, some (step, n, i), _, _, _ => some (.call step n i, { c with callSlot := none })
  | none, none, some f, _, _ => some (.fault f, { c with faultSlot := none })
  | none, none, none, some f, _ => some (.state f, { c with stateSlot := none })
  | none, none, none, none, some f => some (.survey f, { c with surveySlot := none })
  | none, none, none, none, none => none

/-- R46, R51: the wait completes: the chosen frame goes into flight and the receiver into SILENT. -/
def waitComplete (s : State) : State :=
  s.onChan fun c =>
    match chooseFrame c with
    | none => { c with tx := .idle, quietFrom := none }
    | some (f, rest) =>
      { rest with flight := some f, began := s.now, tx := .sending, quietFrom := none,
                  rx := if c.rx = .hunt ∨ c.rx = .drain then .silent else c.rx }

/-- R47: the frame that collided back in its slot, unless the slot received a newer one. -/
def returnFrame (f : Frame) (c : Channel) : Channel :=
  match f with
  | .notice k d =>
    { c with noticeSlot := match c.noticeSlot with
                           | some (k', d') => some (k', max d' d)
                           | none => some (k, d) }
  | .call step n i => { c with callSlot := c.callSlot.or (some (step, n, i)) }
  | .fault f => { c with faultSlot := c.faultSlot.or (some f) }
  | .state f => { c with stateSlot := c.stateSlot.or (some f) }
  | .survey f => { c with surveySlot := c.surveySlot.or (some f) }

/-! ### The leads' use of NOTICE sent (R80, R132) -/

/-- The end of a lead placed at `placed`: 400 ms after it, or 100 ms after the report that counts. -/
def leadEndsAt (placed : Nat) (sent : Option Nat) : Nat :=
  match sent with
  | some t => min (placed + 400) (t + 100)
  | none => placed + 400

/-- A NOTICE was sent at `now`: the report counts unless that transmission was already in flight at the placement. -/
def Lead.noticeSent (now : Nat) (l : Lead) : Lead :=
  if l.stale then { l with stale := false } else { l with sent := l.sent.or (some now) }

/-- A NOTICE was sent at `now`. -/
def SurveyLead.noticeSent (now : Nat) (l : SurveyLead) : SurveyLead :=
  if l.stale then { l with stale := false } else { l with sent := l.sent.or (some now) }

/-- R48: NOTICE sent, reported to the loop and park unit and to the survey unit. -/
def reportNoticeSent (s : State) : State :=
  (s.onLoop fun u => { u with lead := u.lead.map (Lead.noticeSent s.now) }).onSurvey fun v =>
    { v with lead := v.lead.map (SurveyLead.noticeSent s.now) }

/-- A NOTICE in flight was cut by a collision: a later transmission carries the warnings of both leads. -/
def noticeCut (s : State) : State :=
  (s.onLoop fun u => { u with lead := u.lead.map fun l => { l with stale := false } }).onSurvey fun v =>
    { v with lead := v.lead.map fun l => { l with stale := false } }

/-! ### The survey's beginning (R129 to R132) -/

/-- R132: a survey begins in stage NOTICE. -/
def beginSurvey (s : State) : State :=
  let begun := s.onSurvey fun v =>
    { v with stage := .notice, dueEnd := none, deferrals := 0,
             lead := some { placed := s.now, stale := s.chan.noticeInFlight, sent := none } }
  placeNotice .surveyLoad 5 begun

/-- R131: a deferral; the one that brings the count to 10 raises SURVEY_BLOCKED. -/
def deferSurvey (s : State) : State :=
  let deferred := s.onSurvey fun v => { v with dueEnd := s.deadline 60000, deferrals := satInc 255 v.deferrals }
  if s.survey.deferrals = 9 then raiseOwn .surveyBlocked none none deferred else deferred

/-- R129, R130: a survey falls due. -/
def surveyFallsDue (s : State) : State := if s.dueTest then beginSurvey s else deferSurvey s

/-- R129: a due-now request. -/
def surveyDueNow (s : State) : State := if s.survey.stage = .idle then surveyFallsDue s else s

end Sys2Proof.Machine
end

