-- ==== Sys2Proof/Machine/RingOps.lean ====
section
/-! DEFINITION. Shared operations of the port states, the cadence generators, the exchange call and caller display
(01, 02). -/

namespace Sys2Proof.Machine

/-! ### Tones and states of a port (R5, R7) -/

/-- R7: the state tone of a state, beginning now; none in the states without one. -/
def PortState.tone (st : PortState) (now : Nat) : Tone :=
  match st with
  | .refused => .stateTone true (now + 500)
  | .loc => .stateTone true (now + 100)
  | _ => .none

/-- R5: the states in which the tone detector runs. -/
def PortState.hearsTones : PortState → Bool
  | .connected => true
  | .loc => true
  | .refused => true
  | _ => false

/-- A port enters a state: its ring cause goes, its state tone is the new state's unless a one-shot tone plays, and
the tone detector forgets its pair where it does not run. -/
def Port.enter (st : PortState) (now : Nat) (q : Port) : Port :=
  { q with
    st := st
    cause := none
    tone := match q.tone with
            | .oneShot k e => .oneShot k e
            | .announcing => .announcing
            | _ => st.tone now
    pair := if st.hearsTones then q.pair else none }

/-- R7: the length of a one-shot tone. -/
def OneShot.length : OneShot → Nat
  | .error => 2000
  | .beep => 200
  | .confirm => 1000
  | .allClear => 2000

/-- R7: a one-shot tone is requested; it replaces one that plays. -/
def playTone (p : PortId) (k : OneShot) (s : State) : State :=
  s.onPort p fun q => { q with tone := .oneShot k (s.now + k.length) }

/-! ### The cadence generator (R31 to R33) -/

/-- R32: the pairs of a pattern, in 50 ms units. -/
def Pattern.pairs : Pattern → List (Nat × Nat)
  | .transfer => [(8, 4), (8, 40)]
  | .recall => [(4, 4), (4, 4), (4, 4), (4, 40)]

/-- The length in milliseconds of a period of a pattern. -/
def Pattern.period (k : Pattern) (pair : Nat) (on : Bool) : Nat :=
  let u := k.pairs.getD pair (1, 1)
  50 * (if on then u.1 else u.2)

/-- The ring cause of a pattern (R30). -/
def Pattern.cause : Pattern → RingCause
  | .transfer => .transfer
  | .recall => .recall

/-- R31, R33: the generator OFF, its gate closed, its overload cut mark clear. -/
def PortRing.silence (r : PortRing) : PortRing := { r with mode := .off, gateSince := none, cut := false }

/-- R10, R138: a port that is IDLE starts ringing with a cause and a generator mode, its gate open. -/
def startRinging (p : PortId) (cause : RingCause) (mode : Cadence) (s : State) : State :=
  let rung := s.onPort p fun q => { q.enter .ringing s.now with cause := some cause }
  abortMeasuring (rung.onRingOf p fun r => { r with mode := mode, gateSince := some s.now, cut := false })

/-- R30, R32: a port starts ringing a pattern at its first on period. -/
def startPattern (k : Pattern) (p : PortId) (s : State) : State :=
  startRinging p k.cause (.pattern k 0 true (s.now + k.period 0 true)) s

/-- R10, R30: a port comes to IDLE, its generator OFF; a standing demand starts it at once, RECALL first. -/
def portToIdle (p : PortId) (s : State) : State :=
  let idle := (s.onPort p fun q => q.enter .idle s.now).onRingOf p PortRing.silence
  if (s.ringOf p).demandRecall then startPattern .recall p idle
  else if (s.ringOf p).demandTransfer then startPattern .transfer p idle
  else idle

/-- A port RINGING with a cause. -/
def State.ringsFor (s : State) (p : PortId) (c : RingCause) : Bool :=
  decide ((s.port p).st = .ringing) && decide ((s.port p).cause = some c)

/-- R10: a port RINGING with the cause has its ringing ended. -/
def endRinging (c : RingCause) (p : PortId) (s : State) : State := if s.ringsFor p c then portToIdle p s else s

/-- The demand flag of a pattern. -/
def PortRing.setDemand (k : Pattern) (b : Bool) (r : PortRing) : PortRing :=
  match k with
  | .transfer => { r with demandTransfer := b }
  | .recall => { r with demandRecall := b }

/-- R30: a demand is set on a fitted port, which starts ringing if it is IDLE. -/
def setDemand (k : Pattern) (p : PortId) (s : State) : State :=
  if !s.fitted p then s
  else
    let asked := s.onRingOf p (PortRing.setDemand k true)
    if (s.port p).st = .idle then startPattern k p asked else asked

/-- R30: a demand is withdrawn. -/
def withdrawDemand (k : Pattern) (p : PortId) (s : State) : State :=
  endRinging k.cause p (s.onRingOf p (PortRing.setDemand k false))

/-- The demand withdrawn from both ports (R85, R86). -/
def withdrawBoth (k : Pattern) (s : State) : State := withdrawDemand k .two (withdrawDemand k .one s)

/-! ### The exchange call (R25 to R29, R36, R40) -/

/-- R40: the sends in progress are abandoned, their marks left clear. -/
def abandonSends (s : State) : State :=
  (s.onRingOf .one fun r => { r with sendEnd := none }).onRingOf .two fun r => { r with sendEnd := none }

/-- R36: the caller window closes and a message being received is set aside, the window expired before or not
(assumption 44). -/
def closeCallerWindow (s : State) : State := s.onRing fun r => { r with callerEnd := none, receiving := false }

/-- R26, R27: the ringing of an exchange call ends on every port, with its window and its sends. -/
def endExchangeRinging (s : State) : State :=
  endRinging .exchange .two (endRinging .exchange .one (abandonSends (closeCallerWindow s)))

/-- R27: an exchange call IN_PROGRESS is answered. -/
def answerCall (s : State) : State :=
  if s.ring.call = .inProgress then endExchangeRinging (s.onRing fun r => { r with call := .answered }) else s

/-- R182: the ring policy of a port. -/
def State.policy (s : State) : PortId → RingPolicy
  | .one => s.profile.policy1
  | .two => s.profile.policy2

/-- R29: the day test. -/
def State.dayTest (s : State) : Bool :=
  match s.time.clock with
  | none => true
  | some c =>
    let b := s.profile.dayStart
    let e := s.profile.dayEnd
    if b = e then true
    else if b < e then decide (b ≤ c.hour ∧ c.hour < e)
    else decide (b ≤ c.hour ∨ c.hour < e)

/-- R28: the admission of a port at the first burst. -/
def State.admits (s : State) (p : PortId) : Bool :=
  match s.policy p with
  | .always => true
  | .delayed => true
  | .daytime => s.dayTest
  | .never => false

/-- R28: the policy lets the port ring from this burst. -/
def State.ringsFrom (s : State) (p : PortId) (burst : Nat) : Bool :=
  match s.policy p with
  | .delayed => decide (s.profile.delayedBursts + 1 ≤ burst)
  | .never => false
  | _ => true

/-- R28: the ringing decision for a port at a burst start. -/
def ringForBurst (p : PortId) (s : State) : State :=
  if (s.port p).st = .idle && (s.ringOf p).admitted && s.ringsFrom p s.ring.burstNo then
    startRinging p .exchange .mirror s
  else s

/-- R31: the gate of a port in MIRROR mode opens at a burst start. -/
def openMirrorGate (p : PortId) (s : State) : State :=
  s.onRingOf p fun r => if r.mode = .mirror then { r with gateSince := some s.now } else r

/-- R35: a burst on the port is completed; with drive and no overload it clears RING_FAULT. -/
def burstComplete (p : PortId) (s : State) : State :=
  if (s.ringOf p).gateSince.isSome && !(s.ringOf p).cut then clearOwn .ringFault (some (portNum p)) s else s

/-- R31, R35: the gate of a port in MIRROR mode closes at a burst end. -/
def closeMirrorGate (p : PortId) (s : State) : State :=
  if (s.ringOf p).mode = .mirror then
    (burstComplete p s).onRingOf p fun r => { r with gateSince := none }
  else s

/-! ### Caller display (R37 to R39) -/

/-- R39: the port is owed a send. -/
def State.owed (s : State) (p : PortId) : Bool :=
  s.fitted p && decide (s.ring.call = .inProgress) && s.ring.record.isSome && (s.ringOf p).admitted
  && !(s.ringOf p).sent

/-- R39: a send moment of the port. -/
def sendMoment (p : PortId) (s : State) : State :=
  if s.owed p && ((s.port p).st = .idle || s.ringsFor p .exchange) && (s.ringOf p).sendEnd.isNone then
    s.onRingOf p fun r => { r with sendEnd := s.deadline 750 }
  else s

/-- R39: a burst end gives the port a send moment. -/
def State.momentAtBurstEnd (s : State) (p : PortId) : Bool :=
  s.ring.record.isSome &&
    match s.policy p with
    | .delayed => decide (s.profile.delayedBursts ≤ s.ring.burstNo)
    | _ => true

/-- R37: the message is valid. -/
def callerValid (m : CallerMessage) : Bool :=
  decide (m.sum = 0) && decide (m.dateTime.length = 8)
  && (match m.number with | some n => decide (n.length ≤ 18) | none => true)
  && (match m.name with | some n => decide (n.length ≤ 20) | none => true)

/-- R38: the record of a message. -/
def callerRecord (m : CallerMessage) : CallerRecord :=
  { dateTime := m.dateTime, number := m.number, name := m.name, withheld := m.withheld }

/-- R38: a send of the older record to the port is abandoned and counted. -/
def overwriteSend (p : PortId) (s : State) : State :=
  if (s.ringOf p).sendEnd.isSome then
    (s.onRingOf p fun r => { r with sendEnd := none }).onRing fun r => { r with overwrites := satInc 255 r.overwrites }
  else s

/-- R39: the moment at which the record becomes not empty, for a DELAYED port after the burst end of burst n and
before the next burst start. -/
def State.momentAtRecord (s : State) (p : PortId) : Bool :=
  decide (s.policy p = .delayed) && decide (s.ring.burstNo = s.profile.delayedBursts)
  && (decide (s.ring.burst = .quiet) || decide (s.ring.burst = .starting))

end Sys2Proof.Machine
end

