-- ==== Sys2Proof/Machine/LoopOps.lean ====
section
/-! DEFINITION. The loop and park unit's shared operations (05): the wanted state, leads, the recall, the park record
at the parker and the incoming transfer record at the target. -/

namespace Sys2Proof.Machine

/-! ### The wanted state and the lead (R77 to R81) -/

/-- A park record that holds the line: phase OFFERED or RECALLING (R77). -/
def Park.holds (k : Park) : Bool := decide (k.phase ≠ .releasing)

/-- R77: the wanted state. -/
def State.wanted (s : State) : LoopState :=
  if s.someConnected then .closed
  else
    match s.loop.park with
    | some k => if k.holds then .hold else .opened
    | none => .opened

/-- R82: the loop is opened for a register recall break. -/
def Recall.breaking : Recall → Bool
  | .brk _ => true
  | _ => false

/-- R82: a recall is in progress, in LEAD or BREAK. -/
def Recall.inProgress : Recall → Bool
  | .none => false
  | .lead => true
  | .brk _ => true

/-- R80: a lead begins, or the running lead goes on from this newer placement. -/
def startLead (act : LeadAct) (kind : NoticeKind) (dur : Nat) (s : State) : State :=
  let acts := match s.loop.lead with
    | some l => l.acts
    | none => []
  placeNotice kind dur (s.onLoop fun u =>
    { u with lead := some { acts := acts ++ [act], placed := s.now, stale := s.chan.noticeInFlight, sent := none } })

/-- R78: a port's request, taken by comparing the wanted state with the loop state. A port that leaves the other own
port CONNECTED while the loop is still OPEN begins the lead for a loop close anew (assumption 55). -/
def requestLoop (s : State) : State :=
  match s.wanted, s.loop.loop with
  | .closed, .opened => startLead .loopClose .loopClose 3 s
  | .opened, .closed => if s.loop.recallState.inProgress then s else startLead .loopOpen .loopOpen 3 s
  | _, _ => s

/-- R81: the loop takes its wanted state; a hold in phase RELEASING opens and its record is removed. In a recall break
the loop state remains CLOSED, and the open is taken up at the break's end (R82, assumption 12). -/
def takeWanted (s : State) : State :=
  match s.wanted, s.loop.loop with
  | .closed, .opened => s.onLoop fun u => { u with loop := .closed }
  | .opened, .closed => if s.loop.recallState.breaking then s else s.onLoop fun u => { u with loop := .opened }
  | .opened, .hold =>
    match s.loop.park with
    | some _ => s.onLoop fun u => { u with loop := .opened, park := none }
    | none => s
  | _, _ => s

/-- R87: a take completes, its taking port still CONNECTED, or is given up. -/
def decideTake (s : State) : State :=
  match s.loop.incoming with
  | none => s
  | some r =>
    match r.taking with
    | none => s
    | some p =>
      if (s.port p).st = .connected then
        placeCall .taken r.parker r.parkId (s.onLoop fun u =>
          { u with incoming := none,
                   took := some { parker := r.parker, parkId := r.parkId, expiry := s.now + 60000 } })
      else s.onLoop fun u => { u with incoming := none }

/-- R82: the recall's decision at the end of its lead. -/
def decideRecall (s : State) : State :=
  if s.loop.recallState = .lead then
    if s.someConnected && decide (s.loop.loop = .closed) then
      s.onLoop fun u => { u with recallState := .brk (s.now + 100) }
    else s.onLoop fun u => { u with recallState := .none }
  else s

/-- R81: the end of a lead with the acts it announced. -/
def endLead (acts : List LeadAct) (s : State) : State :=
  let moved := takeWanted (s.onLoop fun u => { u with lead := none })
  let taken := if acts.contains .handover then decideTake moved else moved
  if acts.contains .recall then decideRecall taken else taken

/-! ### Register recall (R82) -/

/-- R82: a recall request. -/
def recallRequest (s : State) : State :=
  if s.loop.loop = .closed && !s.loop.recallState.inProgress then
    startLead .recall .loopOpen 5 (s.onLoop fun u => { u with recallState := .lead })
  else s

/-- R82: the end of the break; an open held back under R78 is taken up. -/
def endBreak (s : State) : State :=
  requestLoop (s.onLoop fun u => { u with loop := .closed, recallState := .none })

/-! ### The incoming transfer record, at the target (R85 to R88) -/

/-- R87: the taking port leaves CONNECTED; the take is given up. -/
def giveUpTake (p : PortId) (s : State) : State :=
  match s.loop.incoming with
  | some r => if r.taking = some p then s.onLoop fun u => { u with incoming := none } else s
  | none => s

/-- R85: the took-transfer mark holds a parker and a park id. -/
def Took.isFor (t : Took) (parker parkId : Nat) : Bool := decide (t.parker = parker) && decide (t.parkId = parkId)

/-- R85: an offer is learnt. -/
def createIncoming (parker parkId : Nat) (s : State) : State :=
  if s.loop.incoming.isSome || decide (s.loop.loop = .hold) || s.loop.took.any (fun t => t.isFor parker parkId) then s
  else
    setDemand .transfer .two (setDemand .transfer .one (s.onLoop fun u =>
      { u with incoming := some { parker := parker, parkId := parkId, taking := none, expiry := s.now + 60000 } }))

/-- R85, R86: the record is removed and the TRANSFER demand withdrawn. -/
def removeIncoming (s : State) : State := withdrawBoth .transfer (s.onLoop fun u => { u with incoming := none })

/-- R86: a withdrawal of the offer in phase RINGING, where `gone` says that it concerns the record. -/
def withdrawIncoming (gone : Incoming → Bool) (s : State) : State :=
  match s.loop.incoming with
  | some r => if r.taking.isNone && gone r then removeIncoming s else s
  | none => s

/-- R88: the took-transfer mark's removal by a STATE of its parker that no longer carries the offer. -/
def dropTook (sender : Nat) (offer : Option (Nat × Nat)) (s : State) : State :=
  match s.loop.took with
  | some t =>
    if t.parker = sender ∧ offer ≠ some (s.own, t.parkId) then s.onLoop fun u => { u with took := none } else s
  | none => s

/-! ### The park record, at the parker (R84, R89 to R92) -/

/-- R84: the id after `n`, from 15 to 1. -/
def parkIdAfter (n : Nat) : Nat := if 15 ≤ n then 1 else n + 1

/-- R84: the unit refuses the offer of port `p` to station `d`. -/
def State.refusesOffer (s : State) (p : PortId) (d : Nat) : Bool :=
  !s.peerPresent d || decide ((s.port (otherPort p)).st = .connected) || decide (s.loop.loop ≠ .closed)
  || s.loop.recallState.inProgress

/-- R84: the unit's part of an accepted offer. -/
def parkCall (p : PortId) (d : Nat) (s : State) : State :=
  let id := parkIdAfter s.loop.lastParkId
  let parked := s.onLoop fun u =>
    { u with loop := .hold, lastParkId := id,
             park := some { target := d, parkId := id, port := p, start := s.now, phase := .offered,
                            expiry := some (s.now + 45000) } }
  let called := placeCall .offer d id parked
  if s.loop.incoming.isSome then removeIncoming called else called

/-- R90 to R92: the offer ends at the parker; a CALL WITHDRAWN is placed in OFFERED, the RECALL demand withdrawn in
RECALLING. -/
def endOffer (k : Park) (s : State) : State :=
  match k.phase with
  | .offered => placeCall .withdrawn k.target k.parkId s
  | .recalling => withdrawDemand .recall k.port s
  | .releasing => s

/-- R90, R92: the held call goes back to a port: HOLD to CLOSED at once, the park record removed. -/
def unpark (s : State) : State :=
  s.onLoop fun u => { u with loop := if u.loop = .hold then .closed else u.loop, park := none }

/-- R89: the take is heard from `sender` with a park id, in any phase. -/
def takeHeard (sender parkId : Nat) (s : State) : State :=
  match s.loop.park with
  | none => s
  | some k =>
    if k.target = sender ∧ k.parkId = parkId then
      let opened := s.onLoop fun u => { u with loop := if u.loop = .hold then .opened else u.loop, park := none }
      if k.phase = .recalling then withdrawDemand .recall k.port opened else opened
    else s

/-- R91: the park hold is given up; in phase RELEASING nothing more is done. -/
def releasePark (s : State) : State :=
  match s.loop.park with
  | none => s
  | some k =>
    if k.holds then
      startLead .holdOpen .loopOpen 3 ((endOffer k s).onLoop fun u =>
        { u with park := some { k with phase := .releasing, expiry := none } })
    else s

end Sys2Proof.Machine
end

