-- ==== Sys2Proof/Machine/PortOps.lean ====
section
/-! DEFINITION. The handset ports' shared operations (01): entering and leaving the port states, the fault announcement,
the off-hook decision, the routing of digits, the hook declarations and the classification of breaks. -/

namespace Sys2Proof.Machine

/-! ### Entering and leaving states (R8, R9, R11 to R13, R17) -/

/-- R13: a tone pair being sent for the port stops at once and the sender is free. -/
def stopSender (p : PortId) (s : State) : State :=
  match s.sender.sender with
  | .tone q _ _ => if q = p then s.onSender fun t => { t with sender := .free } else s
  | _ => s

/-- R13, R87: what leaving CONNECTED for any state does; nothing from another state. -/
def leaveConnected (p : PortId) (s : State) : State :=
  if (s.port p).st = .connected then
    giveUpTake p (stopSender p (s.onPort p fun q => { q with fifo := [] }))
  else s

/-- R9: entry into CONNECTED. -/
def enterConnected (p : PortId) (s : State) : State :=
  s.onPort p fun q =>
    { q.enter .connected s.now with
      lockoutEnd := none, flashEnd := none, digitsSeen := 0, hashWin := none, mute := false, fifo := [] }

/-- R12, R23: entry into REFUSED. -/
def enterRefused (p : PortId) (s : State) : State :=
  (leaveConnected p s).onPort p fun q =>
    { q.enter .refused s.now with fifo := [], flashEnd := none, lockoutEnd := s.deadline 60000 }

/-- R17, R23: entry into LOCAL. -/
def enterLocal (p : PortId) (s : State) : State :=
  (leaveConnected p s).onPort p fun q =>
    { q.enter .loc s.now with fifo := [], mute := false, lockoutEnd := s.deadline 60000 }

/-- R17: a CONNECTED port enters LOCAL and asks the loop and park unit (R78). -/
def localService (p : PortId) (s : State) : State := requestLoop (enterLocal p s)

/-- R12: each CONNECTED port goes to REFUSED, and the loop and park unit is asked where a port left CONNECTED (R78): once,
after both have left (assumption 55). -/
def portsToRefused (s : State) : State :=
  let one := if s.port1.st = .connected then enterRefused .one s else s
  let both := if s.port2.st = .connected then enterRefused .two one else one
  if s.someConnected then requestLoop both else both

/-! ### The fault announcement (R20) -/

/-- R20: the sequence and class numbers of the first eight ACTIVE records. -/
def FaultLog.announced (l : FaultLog) : List (Nat × Nat) :=
  ((l.records.filter Record.isActive).take 8).map fun r => (r.seq, r.cls.num)

/-- R20: the announcement starts; with no ACTIVE record it is the all-clear tone. -/
def startAnnouncement (p : PortId) (s : State) : State :=
  let a : Announcement :=
    match s.log.announced with
    | [] => { list := [], place := 0, beeps := 0, phase := .allClear, ends := s.now + OneShot.allClear.length }
    | r :: rest => { list := r :: rest, place := 0, beeps := r.2, phase := .beep, ends := s.now + 150 }
  s.onPort p fun q => { q with tone := .announcing, ann := some a }

/-- R20, R23: an announcement in progress ends, and the lockout timer restarts. -/
def endAnnouncement (p : PortId) (s : State) : State :=
  if (s.port p).ann.isSome then
    s.onPort p fun q =>
      { q with ann := none, lockoutEnd := s.deadline 60000,
               tone := if q.tone = .announcing then q.st.tone s.now else q.tone }
  else s

/-- R20: the announcement is in its last period. -/
def Announcement.last (a : Announcement) : Bool :=
  match a.phase with
  | .allClear => true
  | .gap => decide (a.list.length ≤ a.place + 1)
  | _ => false

/-- R20: the next period of an announcement that is not in its last. -/
def Announcement.advance (a : Announcement) : Announcement :=
  match a.phase with
  | .beep => { a with phase := .silence, ends := a.ends + 150 }
  | .silence =>
    if 1 < a.beeps then { a with phase := .beep, beeps := a.beeps - 1, ends := a.ends + 150 }
    else { a with phase := .gap, beeps := 0, ends := a.ends + 1000 }
  | .gap =>
    { a with phase := .beep, place := a.place + 1, beeps := (a.list.getD (a.place + 1) (0, 0)).2, ends := a.ends + 150 }
  | .allClear => a

/-! ### The off-hook decision (R8) and the answers to pattern ringing (R9, R87, R90) -/

/-- R8: the line is in use elsewhere. -/
def State.usedElsewhere (s : State) : Bool :=
  (decide (s.line.st = .inUse) && decide (s.loop.loop = .opened)) || s.peerInUse

/-- R8: the decision of an off-hook, and of service code 0. A port that bridges makes no request, also where the loop
is still OPEN in the other port's lead (assumption 55). -/
def decideOffHook (p : PortId) (s : State) : State :=
  if s.line.st = .dead then startAnnouncement p (enterLocal p s)
  else if s.loop.loop = .hold then enterRefused p s
  else if (s.port (otherPort p)).st = .connected then enterConnected p s
  else if s.usedElsewhere && decide (s.profile.privacy = .priv) then enterRefused p s
  else requestLoop (enterConnected p s)

/-- R9, R87: the answer to a TRANSFER ring starts the take. -/
def answerTransfer (p : PortId) (s : State) : State :=
  let taking := (enterConnected p s).onLoop fun u =>
    { u with incoming := u.incoming.map fun r => { r with taking := some p } }
  startLead .handover .handover 10 (withdrawBoth .transfer taking)

/-- R90, R92: a port is connected to the held call. -/
def connectHeld (p : PortId) (s : State) : State := unpark (enterConnected p s)

/-- R9, R90: the answer to a RECALL ring. -/
def answerRecall (p : PortId) (s : State) : State := withdrawDemand .recall p (connectHeld p s)

/-! ### The hook declarations (R2, R8, R9, R11) -/

/-- R2, R8, R9, R33, R40: an off-hook is declared. -/
def declareOffHook (p : PortId) (s : State) : State :=
  let before := s.port p
  let declared := s.onPort p fun q => { q with hook := .off }
  let tripped := declared.onRingOf p fun r => { r.silence with sendEnd := none }
  let surveyed := abortMeasuring tripped
  let decided :=
    if before.st = .ringing ∧ before.cause = some .transfer then answerTransfer p surveyed
    else if before.st = .ringing ∧ before.cause = some .recall then answerRecall p surveyed
    else decideOffHook p surveyed
  let answered := if (decided.port p).st = .connected then answerCall decided else decided
  if before.st = .ringing ∧ before.cause = some .exchange then endRinging .exchange (otherPort p) answered else answered

/-- R7, R11: what an on-hook declaration does in every state. It clears the make start and the break start, though the
break may still run (assumption 54). -/
def Port.hungUp (q : Port) : Port :=
  { q with hook := .on, breakStart := none, makeStart := none, train := none, flashEnd := none, hashWin := none,
           mute := false, tone := .none, ann := none, lockoutEnd := none }

/-- R3, R11: an on-hook is declared. -/
def declareOnHook (p : PortId) (s : State) : State :=
  let hung := s.onPort p Port.hungUp
  match (s.port p).st with
  | .connected => requestLoop (portToIdle p (leaveConnected p hung))
  | .loc => portToIdle p hung
  | .refused => portToIdle p hung
  | .lockout => clearOwn .handsetLockout (some (portNum p)) (portToIdle p hung)
  | .absent => s
  | .idle => s
  | .ringing => s

/-! ### Routing a digit (R6, R13, R15 to R22) -/

/-- R13: a pulse digit joins the FIFO, or is dropped at 16 with the error beep. -/
def joinFifo (p : PortId) (n : Fin 10) (s : State) : State :=
  if (s.port p).fifo.length < 16 then s.onPort p fun q => { q with fifo := q.fifo ++ [n] }
  else playTone p .beep s

/-- The error tone; the mute mark clears (R15, R16, R18, R19). -/
def errorUnmuted (p : PortId) (s : State) : State :=
  playTone p .error (s.onPort p fun q => { q with mute := false })

/-- R16: the flash code `d` offers the call to station `d`. -/
def offerCall (p : PortId) (d : Nat) (s : State) : State :=
  if s.refusesOffer p d then errorUnmuted p s
  else playTone p .confirm (enterRefused p (parkCall p d s))

/-- R18, R92: the park record that the port may retrieve. -/
def State.retrievable (s : State) (p : PortId) : Option Park :=
  s.loop.park.filter fun k => decide (k.port = p) && k.holds

/-- R18: the flash code 0, from CONNECTED or REFUSED. -/
def retrieveCall (p : PortId) (s : State) : State :=
  match s.retrievable p with
  | some k => connectHeld p (endOffer k s)
  | none => if (s.port p).st = .connected then errorUnmuted p s else playTone p .error s

/-- R15: the digit recognised in the flash window of a CONNECTED port. -/
def flashCode (p : PortId) (d : Digit) (s : State) : State :=
  match d with
  | .star => errorUnmuted p s
  | .hash =>
    s.onPort p fun q =>
      { q with digitsSeen := 1, hashWin := some { expiry := s.now + 2000, afterFlash := true } }
  | .num n =>
    if n.val = 0 then retrieveCall p s
    else if n.val = 9 then localService p s
    else if n.val = s.own then errorUnmuted p s
    else offerCall p n.val s

/-- R6, R19: a digit recognised in CONNECTED with no flash window; `pulse` says how it was dialled. A "#" counted first
after a flash whose window has expired opens its window as one opened after entry, with the mute mark clear (assumption
13). -/
def connectedDigit (p : PortId) (d : Digit) (pulse : Bool) (s : State) : State :=
  let q := s.port p
  let after := q.hashWin.any HashWindow.afterFlash
  let counted := s.onPort p fun q =>
    { q with
      digitsSeen := min 2 (q.digitsSeen + 1)
      hashWin := if q.hashWin.isNone ∧ q.digitsSeen = 0 ∧ d = .hash
                 then some { expiry := s.now + 2000, afterFlash := false } else none }
  if q.hashWin.isSome ∧ d = .hash then localService p counted
  else if after then errorUnmuted p counted
  else
    match d, pulse with
    | .num n, true => joinFifo p n counted
    | _, _ => counted

/-- R20 to R22: a service code in LOCAL; a digit ends an announcement in progress. -/
def serviceCode (p : PortId) (d : Digit) (s : State) : State :=
  let quiet := endAnnouncement p s
  match d with
  | .num n =>
    if n.val = 0 then decideOffHook p quiet
    else if n.val = 1 then startAnnouncement p quiet
    else if n.val = 2 then playTone p .confirm (surveyDueNow quiet)
    else if n.val = 3 then
      playTone p .confirm (quiet.onPort p fun q => { q with restartAt := q.restartAt.or (s.deadline 1000) })
    else playTone p .error quiet
  | .star => playTone p .error quiet
  | .hash => playTone p .error quiet

/-- R6, R23: a digit recognised in LOCAL or REFUSED restarts the lockout timer. -/
def restartLockout (p : PortId) (s : State) : State := s.onPort p fun q => { q with lockoutEnd := s.deadline 60000 }

/-- R19: the "##" watch counts a digit recognised in CONNECTED, up to two. -/
def Port.countDigit (q : Port) : Port := { q with digitsSeen := min 2 (q.digitsSeen + 1) }

/-- R6: a recognised digit is routed by the port state and its windows; the code of a flash window is counted by the
"##" watch like any digit since the flash (R19). -/
def routeDigit (p : PortId) (d : Digit) (pulse : Bool) (s : State) : State :=
  let shut := s.onPort p fun q => { q with flashEnd := none }
  match (s.port p).st with
  | .connected => if (s.port p).flashEnd.isSome then flashCode p d (shut.onPort p Port.countDigit) else connectedDigit p d pulse s
  | .refused =>
    if (s.port p).flashEnd.isSome then
      (if d = .num 0 then retrieveCall p (restartLockout p shut) else playTone p .error (restartLockout p shut))
    else restartLockout p s
  | .loc => serviceCode p d (restartLockout p s)
  | .lockout => s
  | .absent => s
  | .idle => s
  | .ringing => s

/-! ### What a digit is taken as (R6, R15, R19 to R22): the conditions of the code rows -/

/-- A flash window stands open in CONNECTED. -/
def State.flashConnected (s : State) (p : PortId) : Bool :=
  decide ((s.port p).st = .connected) && (s.port p).flashEnd.isSome

/-- A flash window stands open in REFUSED. -/
def State.flashRefused (s : State) (p : PortId) : Bool :=
  decide ((s.port p).st = .refused) && (s.port p).flashEnd.isSome

/-- R16: the code `d` is a transfer. -/
def State.takesTransfer (s : State) (p : PortId) (d : Nat) : Bool :=
  s.flashConnected p && decide (1 ≤ d ∧ d ≤ 8 ∧ d ≠ s.own)

/-- R15: the digit is a refused flash code: the own number or star in CONNECTED, any but 0 in REFUSED. -/
def State.refusesFlashCode (s : State) (p : PortId) (d : Digit) : Bool :=
  match d with
  | .num n =>
    (s.flashConnected p && decide (n.val = s.own)) || (s.flashRefused p && decide (n.val ≠ 0))
  | .star => s.flashConnected p || s.flashRefused p
  | .hash => s.flashRefused p

/-- R19: a "#" recognised now is the first or the second digit of "##". -/
def State.takesHash (s : State) (p : PortId) : Bool :=
  decide ((s.port p).st = .connected) &&
    ((s.port p).flashEnd.isSome || (s.port p).hashWin.isSome || decide ((s.port p).digitsSeen = 0))

/-- A port in LOCAL, where each digit is a service code. -/
def State.takesService (s : State) (p : PortId) : Bool := decide ((s.port p).st = .loc)

/-! ### Breaks (R3, R4, R15) -/

/-- R3, R4: a break of 20 to 99 ms is counted into the pulse train. -/
def countPulse (p : PortId) (s : State) : State :=
  s.onPort p fun q =>
    { q with makeStart := some s.now, train := some (satInc 255 (q.train.getD 0)) }

/-- R3, R15: a break of 100 to 699 ms is a flash. -/
def flash (p : PortId) (s : State) : State :=
  let ended := s.onPort p fun q => { q with makeStart := some s.now, train := none }
  match (s.port p).st with
  | .connected =>
    ended.onPort p fun q => { q with flashEnd := s.deadline 3000, digitsSeen := 0, hashWin := none, mute := true }
  | .refused => ended.onPort p fun q => { q with flashEnd := s.deadline 3000, digitsSeen := 0, hashWin := none }
  | _ => ended

/-- R3: a make edge at `now` ends a break that began at `start`, and the break is classified by its length. -/
def classifyBreak (p : PortId) (start : Nat) (s : State) : State :=
  if s.now - start < 20 then s
  else if s.now - start < 100 then countPulse p s
  else flash p s

/-- R4: the pulse train ends with its count. -/
def endTrain (p : PortId) (count : Nat) (s : State) : State :=
  let ended := s.onPort p fun q => { q with train := none }
  if count ≤ 10 then routeDigit p (.num (Fin.ofNat 10 count)) true ended
  else
    let counted := ended.onPort p fun q => { q with discards := satInc 255 q.discards }
    if (s.port p).st = .connected then playTone p .error counted else counted

/-! ### The line-side tone sender (R14) -/

/-- R14: a port is eligible. -/
def State.eligible (s : State) (p : PortId) : Bool :=
  decide ((s.port p).st = .connected) && !(s.port p).fifo.isEmpty && decide (s.loop.loop = .closed)
  && (s.port p).flashEnd.isNone && !s.loop.recallState.inProgress

/-- R14: the port served next, if any is eligible: of both, the one not served last. -/
def State.nextServed (s : State) : Option PortId :=
  let other := otherPort s.sender.lastServed
  if s.eligible other then some other
  else if s.eligible s.sender.lastServed then some s.sender.lastServed
  else none

/-- R14: a free sender takes the oldest digit of the port served next. -/
def senderTake (s : State) : State :=
  match s.sender.sender, s.nextServed with
  | .free, some p =>
    match (s.port p).fifo with
    | d :: rest =>
      (s.onPort p fun q => { q with fifo := rest }).onSender fun _ =>
        { sender := .tone p d (s.now + 80), lastServed := p }
    | [] => s
  | _, _ => s

end Sys2Proof.Machine
end

