-- ==== Sys2Proof/Machine/TimeOps.lean ====
section
/-! DEFINITION. The day clock (06): advance, setting, adoption. -/

namespace Sys2Proof.Machine

/-- R96: the days of a month. -/
def daysOf (month : Nat) : Nat := [31, 29, 31, 30, 31, 30, 31, 31, 30, 31, 30, 31].getD (month - 1) 0

/-- R96: the advance by one second. -/
def DayClock.tick (c : DayClock) : DayClock :=
  if c.second + 1 ≤ 59 then { c with second := c.second + 1 }
  else if c.minute + 1 ≤ 59 then { c with second := 0, minute := c.minute + 1 }
  else if c.hour + 1 ≤ 23 then { c with second := 0, minute := 0, hour := c.hour + 1 }
  else if c.day + 1 ≤ daysOf c.month then { c with second := 0, minute := 0, hour := 0, day := c.day + 1 }
  else if c.month + 1 ≤ 12 then { c with second := 0, minute := 0, hour := 0, day := 1, month := c.month + 1 }
  else { c with second := 0, minute := 0, hour := 0, day := 1, month := 1 }

/-- R97: the test of a month, day, hour and minute. -/
def validTime (month day hour minute : Nat) : Bool :=
  decide (1 ≤ month ∧ month ≤ 12 ∧ 1 ≤ day ∧ day ≤ daysOf month ∧ hour ≤ 23 ∧ minute ≤ 59)

/-- The two decimal digits at an offset. -/
def twoDigits (d : List (Fin 10)) (i : Nat) : Nat := (d.getD i 0).val * 10 + (d.getD (i + 1) 0).val

/-- R97: a valid caller message's date-time, MMDDhhmm, is taken for the clock if it passes the test. -/
def setFromCaller (d : List (Fin 10)) (s : State) : State :=
  if validTime (twoDigits d 0) (twoDigits d 2) (twoDigits d 4) (twoDigits d 6) then
    hourReport (s.onTime fun t =>
      { t with clock := some { quality := .caller, month := twoDigits d 0, day := twoDigits d 2,
                               hour := twoDigits d 4, minute := twoDigits d 6, second := 0 } })
  else s

/-- R98: a carried clock is set as the own, with quality PEER. -/
def adopt (c : CarriedClock) (s : State) : State :=
  hourReport (s.onTime fun t =>
    { t with clock := some { quality := .peer, month := c.month, day := c.day, hour := c.hour, minute := c.minute,
                             second := 0 } })

/-- R98: the carried fields are the own clock's. -/
def CarriedClock.same (c : CarriedClock) (o : DayClock) : Bool :=
  decide (c.month = o.month ∧ c.day = o.day ∧ c.hour = o.hour ∧ c.minute = o.minute)

/-- R98: the day clock field of a STATE processed. -/
def considerClock (carried : Option CarriedClock) (s : State) : State :=
  match carried with
  | none => s
  | some c =>
    if !(validTime c.month c.day c.hour c.minute && (decide (c.quality = 1) || decide (c.quality = 2))) then s
    else
      match s.time.clock with
      | none => adopt c s
      | some o =>
        match o.quality with
        | .caller => s
        | .peer => if c.quality = 1 ∧ ¬ c.same o then adopt c s else s

/-- R96: the advance of one rise of the seconds count. -/
def advanceClock (s : State) : State :=
  match s.time.clock with
  | none => s
  | some c =>
    let advanced := s.onTime fun t => { t with clock := some c.tick }
    if c.tick.hour ≠ c.hour then hourReport advanced else advanced

end Sys2Proof.Machine
end

