-- ==== Sys2Proof/Machine/PeerOps.lean ====
section
/-! DEFINITION. The peer table's shared operations (04) and what processing a delivered frame hands to the blocks
(03, R55 to R57). -/

namespace Sys2Proof.Machine

/-! ### The entry of a sender (R63, R64) -/

/-- R63: a new entry, heard now. -/
def Peer.create (station now : Nat) : Peer :=
  { number := station, present := true, lastHeard := now, silenceEnd := some (now + 40000), removalEnd := none,
    statePart := none, figures := none, notice := none }

/-- R64: an entry heard now. -/
def Peer.heard (now : Nat) (e : Peer) : Peer :=
  { e with present := true, lastHeard := now, silenceEnd := some (now + 40000), removalEnd := none }

/-- The table with an entry inserted in its place by station number. -/
def insertPeer (e : Peer) : List Peer → List Peer
  | [] => [e]
  | x :: xs => if e.number < x.number then e :: x :: xs else x :: insertPeer e xs

/-- Change the entry of a station, if the table has one. -/
def onPeer (n : Nat) (f : Peer → Peer) (s : State) : State :=
  s.onPeers fun t => t.map fun e => if e.number = n then f e else e

/-- R63, R64: the sender's entry is created or heard, and PEER_SILENT cleared where its presence comes about. -/
def hear (sender : Nat) (s : State) : State :=
  match s.peer sender with
  | none => clearOwn .peerSilent (some sender) (s.onPeers (insertPeer (Peer.create sender s.now)))
  | some e =>
    let heard := onPeer sender (Peer.heard s.now) s
    if e.present then heard else clearOwn .peerSilent (some sender) heard

/-! ### Reports of changes (R72) -/

/-- What R72 compares: presence, the loop state and the holding role of the STATE part. -/
def Peer.reported (e : Peer) : Bool × Option LoopState × Option Role :=
  (e.present, e.statePart.map fun p => p.1.loop, e.statePart.map fun p => p.1.role)

/-- The loop state that station `n` shows, none without a PRESENT entry that shows one (R68). -/
def State.shownLoop (s : State) (n : Nat) : Option LoopState := (s.peer n).bind Peer.showsLoop

/-- R27, R72: the entry of station `n`, which showed `before`, is reported; the ring and cadence unit answers a call
when it now shows CLOSED, and the holding controller reviews. -/
def reportPeer (n : Nat) (before : Option LoopState) (s : State) : State :=
  let answered := if s.shownLoop n = some .closed ∧ before ≠ some .closed then answerCall s else s
  review answered

/-- R63 to R67, R72: a frame from `sender` reaches the peer table, where `apply` puts its part into the entry; a change
of the entry that R72 names is reported when the update is complete. -/
def updatePeer (sender : Nat) (apply : Peer → Peer) (s : State) : State :=
  let updated := onPeer sender apply (hear sender s)
  if (s.peer sender).map Peer.reported = (updated.peer sender).map Peer.reported then updated
  else reportPeer sender (s.shownLoop sender) updated

/-- R69: an entry becomes SILENT. -/
def Peer.silence (now : Nat) (e : Peer) : Peer :=
  { e with present := false, silenceEnd := none, removalEnd := some (now + 600000) }

/-! ### Processing (R55 to R57) -/

/-- The first DELIVERED frame of the receive slots. -/
def firstDelivered : List RxSlot → Option RxFrame
  | [] => none
  | .delivered f :: _ => some f
  | _ :: rest => firstDelivered rest

/-- R55: the first DELIVERED frame's slot in another condition, or FREE. -/
def replaceDelivered (put : RxFrame → List RxSlot) : List RxSlot → List RxSlot
  | [] => []
  | .delivered f :: rest => put f ++ rest
  | x :: rest => x :: replaceDelivered put rest

/-- A slot that is PROCESSING. -/
def RxSlot.isProcessing : RxSlot → Bool
  | .processing _ => true
  | _ => false

/-- R55: the frame of a kind that may be processed now: the earliest delivered, while no slot is PROCESSING. -/
def State.processable (s : State) (k : FrameKind) : Option RxFrame :=
  if s.chan.slots.any RxSlot.isProcessing then none
  else (firstDelivered s.chan.slots).filter fun f => decide (f.kind = k)

/-- R55: the slot of the frame being processed becomes FREE. -/
def freeDelivered (s : State) : State :=
  s.onChan fun c => { c with slots := replaceDelivered (fun _ => []) c.slots }

/-- R57: the slot of the frame being processed stays PROCESSING. -/
def holdDelivered (s : State) : State :=
  s.onChan fun c => { c with slots := replaceDelivered (fun f => [.processing f]) c.slots }

/-! ### The blocks that take each kind (R56) -/

/-- R85, R86, R88, R89: the loop and park unit's part of a STATE, from its park offer and took-transfer. The offer is
taken before the take that the same STATE tells (assumption 45). -/
def considerTransfer (sender : Nat) (f : StateFields) (s : State) : State :=
  let withdrawn := withdrawIncoming
    (fun r => decide (r.parker = sender) && decide (f.offer ≠ some (s.own, r.parkId))) s
  let dropped := dropTook sender f.offer withdrawn
  let offered :=
    match f.offer with
    | some (target, parkId) => if target = s.own then createIncoming sender parkId dropped else dropped
    | none => dropped
  match f.took with
  | some (parker, parkId) => if parker = s.own then takeHeard sender parkId offered else offered
  | none => offered

/-- R65, R98: a STATE is applied. -/
def applyState (f : RxFrame) (s : State) : State :=
  let fields := readState f.body
  let updated := updatePeer f.sender (fun e => { e with statePart := some (fields, s.now) }) s
  considerTransfer f.sender fields (considerClock fields.clock updated)

/-- R66, R118, R138: a NOTICE is applied. -/
def applyNotice (f : RxFrame) (s : State) : State :=
  let n := readNotice f.body
  let part : NoticePart := { kind := n.1, receipt := s.now, ends := s.now + 100 * n.2 }
  let updated := abortMeasuring (updatePeer f.sender (fun e => { e with notice := some part }) s)
  if s.isModem then braceNotice n.2 updated else updated

/-- R83: a CALL is applied. -/
def applyCall (f : RxFrame) (s : State) : State :=
  let updated := updatePeer f.sender id s
  match readCall f.body with
  | some (step, named, parkId) =>
    if named ≠ s.own then updated
    else
      match step with
      | .offer => createIncoming f.sender parkId updated
      | .withdrawn =>
        withdrawIncoming (fun r => decide (r.parker = f.sender) && decide (r.parkId = parkId)) updated
      | .taken => takeHeard f.sender parkId updated
  | none => updated

/-- R67, R159: a FAULT is applied. -/
def applyFault (f : RxFrame) (s : State) : State :=
  let updated := updatePeer f.sender id s
  if s.isModem then mirror f.sender (readSnapshot f.body) updated else updated

/-- R67: a SURVEY's figures stored. -/
def applySurvey (f : RxFrame) (s : State) : State :=
  updatePeer f.sender (fun e => { e with figures := some (readFigures f.body, s.now) }) s

end Sys2Proof.Machine
end

