-- ==== Sys2Proof/Machine/ResponderOps.lean ====
section
/-! DEFINITION. The management responder's shared operations (10) and the layouts of its answers (R170 to R177, R196). -/

namespace Sys2Proof.Machine

/-! ### Serving (R169) -/

/-- R169: the request that may be served now, if its code satisfies `is`. -/
def State.servable (s : State) (is : Nat → Bool) : Option Request :=
  if s.isModem && s.resp.outstanding.isNone && decide (s.modem.link = .up) then
    s.modem.request.filter fun r => is r.code.toNat
  else none

/-- R169: the request leaves the slot. -/
def takeRequest (s : State) : State := s.onModem fun m => { m with request := none }

/-- R169: one RESPOND is issued with the answer, which becomes outstanding until it is delivered or lost. -/
def respond (r : Request) (answer : List Byte) (s : State) : State :=
  issue (.respond answer) (s.onResp fun p =>
    { p with outstanding := some { code := r.code, tag := r.tag, issued := s.now } })

/-- R195: the three bytes that begin every answer. -/
def answerHead (r : Request) (result : Nat) : List Byte := [r.code, r.tag, b8 result]

/-! ### SUMMARY (R170) -/

/-- R170: the number of ACTIVE records of a class. -/
def FaultLog.activeOf (l : FaultLog) (c : FaultClass) : Nat :=
  (l.records.filter fun r => r.isActive && decide (r.cls = c)).length

/-- R121: the smoothed margin, absent while S16 is. -/
def Holding.margin (h : Holding) : Option Nat := h.s16.map smoothed

/-- R170, R196: the fields of a SUMMARY answer. -/
def State.summaryFields (s : State) : List Byte :=
  [b8 s.own, b8 s.loader.cause.code, b8 s.loader.count] ++ be32 s.secs ++ [b8 s.hold.role.code, b8 s.hold.level]
  ++ opt16 s.hold.margin ++ FaultClass.all.map (fun c => b8 (s.log.activeOf c)) ++ [b8 s.log.records.length]
  ++ be16 s.log.overflow ++ be16 s.chan.sent ++ be16 s.chan.collisions ++ be16 s.chan.checkFails
  ++ be16 s.chan.formatErrs ++ be16 s.chan.overruns ++ be16 s.chan.received
  ++ [b8 s.port1.discards, b8 s.port2.discards, b8 s.ring.checkFails, b8 s.ring.overwrites, b8 s.survey.deferrals,
      b8 s.survey.aborts] ++ be16 s.resp.overwrites

/-! ### NEXT and CLEAR (R171 to R173) -/

/-- R171: the first record in sequence order whose reported mark is clear. -/
def FaultLog.nextUnreported (l : FaultLog) : Option Record := l.records.find? fun r => !r.reported

/-- R196: the four bytes of a day-clock stamp, month 0 absent. -/
def stampBytes : Option Stamp → List Byte
  | none => [0, 0, 0, 0]
  | some t => [b8 t.month, b8 t.day, b8 t.hour, b8 t.minute]

/-- R171, R196: the fields of a NEXT answer that carries a record. -/
def Record.answerFields (r : Record) : List Byte :=
  be16 r.seq ++ [b8 r.cls.num, b8 r.origin, b8 (r.qual.getD 0), b8 r.source.code, b8 r.st.code] ++ be32 r.first
  ++ be32 r.last ++ stampBytes r.stamp ++ [b8 r.count] ++ opt16 r.value

/-- R173: the records that CLEAR removes. -/
def Record.finished (r : Record) : Bool := decide (r.st = .cleared) && r.reported

/-- R173: the log after CLEAR. -/
def FaultLog.clearFinished (l : FaultLog) : FaultLog :=
  { l with records := l.records.filter fun r => !r.finished, overflow := 0 }

/-- R172: a record that the pending mark names in its reported state has its reported mark set. -/
def FaultLog.markReported (mark : Option (Nat × RecState)) (l : FaultLog) : FaultLog :=
  { l with records := l.records.map fun r => if mark = some (r.seq, r.st) then { r with reported := true } else r }

/-! ### FIGURES (R174) -/

/-- R174: the whole 100 ms units of a time of `d` milliseconds. A time that is no whole number of units is rounded as
the free value says (assumption 18), but that an end already passed stays negative. -/
def noticeUnits (d : Int) : Int :=
  if Config.noticeEndRoundsUp d ∧ d % 100 ≠ 0 ∧ ¬ (-100 < d ∧ d < 0) then d / 100 + 1 else d / 100

/-- R174: the NOTICE end as a signed count of 100 ms units from `now`, negative once the end has passed; a count outside
two signed bytes keeps its sign bit and the rest is sent as the free value (assumption 18). -/
def noticeEndField (now ends : Nat) : Half :=
  let units := noticeUnits ((ends : Int) - now)
  if -32768 ≤ units ∧ units ≤ 32767 then BitVec.ofInt 16 units
  else BitVec.ofBool (decide (units < 0)) ++ Config.noticeEndOutOfRange units

/-- R174: the age of the NOTICE part in three bytes; an age above them is sent as the free value (assumption 18). -/
def noticeAgeField (age : Nat) : BitVec 24 :=
  if age < 16777216 then BitVec.ofNat 24 age else Config.noticeAgeOutOfRange age

/-- R174, R196: the six bytes of a NOTICE part. -/
def noticeBytes (now lastHeard : Nat) : Option NoticePart → List Byte
  | none => [0, 0, 0, 0, 0, 0]
  | some n =>
    b8 n.kind.code :: (be16 (noticeEndField now n.ends).toNat
      ++ be24 (noticeAgeField ((lastHeard - n.receipt) / 1000)).toNat)

/-- R196: the 49 bytes of a peer part. -/
def State.peerPart (s : State) (e : Peer) : List Byte :=
  [b8 e.number, if e.present then 0 else 1] ++ be32 (s.ageSecs e.lastHeard)
  ++ (match e.statePart with
      | some (f, t) => 1 :: (f.bytes ++ be32 (s.ageSecs t))
      | none => 0 :: List.replicate 16 0)
  ++ (match e.figures with
      | some (f, t) => 1 :: (f.bytes ++ be32 (s.ageSecs t))
      | none => 0 :: List.replicate 19 0)
  ++ noticeBytes s.now e.lastHeard e.notice

/-- R174, R196: the fields of a FIGURES answer. -/
def State.figuresFields (s : State) : List Byte :=
  [b8 s.own]
  ++ (match s.survey.figures with
      | some f => be32 (s.secs - f.measured) ++ f.bytes
      | none => be32 0xFFFFFFFF ++ List.replicate 15 0)
  ++ opt16 s.survey.baseline
  ++ (match s.log.reference with
      | some r => [b8 r.station] ++ be16 r.feed ++ be32 (s.secs - r.uptime)
      | none => List.replicate 7 0)
  ++ [b8 s.peers.length] ++ s.peers.flatMap s.peerPart

/-! ### The requests (R170 to R177, R194) -/

/-- R194: the six request codes. -/
def requestCodes : List Nat := [1, 2, 3, 4, 5, 6]

/-- R170. -/
def serveSummary (r : Request) (s : State) : State :=
  let t := takeRequest s
  respond r (answerHead r 0 ++ t.summaryFields) t

/-- R171. -/
def serveNext (r : Request) (s : State) : State :=
  let t := takeRequest s
  match t.log.nextUnreported with
  | some rec =>
    respond r (answerHead r 0 ++ rec.answerFields)
      (t.onResp fun p => { p with pendingMark := some (rec.seq, rec.st) })
  | none => respond r (answerHead r 1) (t.onResp fun p => { p with pendingMark := none })

/-- R173. -/
def serveClear (r : Request) (s : State) : State :=
  let t := takeRequest s
  let removed := (t.log.records.filter Record.finished).length
  respond r (answerHead r 0 ++ [b8 removed]) (t.onLog FaultLog.clearFinished)

/-- R174. -/
def serveFigures (r : Request) (s : State) : State :=
  let t := takeRequest s
  respond r (answerHead r 0 ++ t.figuresFields) t

/-- R175. -/
def serveSurvey (r : Request) (s : State) : State := respond r (answerHead r 2) (surveyDueNow (takeRequest s))

/-- R176. A later RESTART served while the deadline of an earlier one still runs starts the deadline anew (assumption
51). -/
def serveRestart (r : Request) (s : State) : State :=
  let t := takeRequest s
  respond r (answerHead r 2 ++ [b8 t.loader.count]) (t.onResp fun p => { p with restartEnd := s.deadline 2000 })

/-- R177. -/
def serveUnknown (r : Request) (s : State) : State := respond r (answerHead r 3) (takeRequest s)

/-! ### The end of an answer (R169, R172) -/

/-- R172: the take of a RESPOND delivers the outstanding answer. -/
def deliverAnswer (s : State) : State :=
  (s.onLog (FaultLog.markReported s.resp.pendingMark)).onResp fun p =>
    { p with outstanding := none, pendingMark := none }

/-- R176: the command taken is the RESPOND of the outstanding RESTART answer. -/
def State.takesRestart (s : State) (c : Command) : Bool :=
  c.isRespond && s.resp.outstanding.any fun o => decide (o.code = 6)

end Sys2Proof.Machine
end

