-- ==== Sys2Proof/Machine/StartOps.lean ====
section
/-! DEFINITION. The two resets (11): the start event of power-up and the station restart, up to the handing on that
closes the event (Finish.lean). -/

namespace Sys2Proof.Machine

/-! ### Power-up (R180 to R183) -/

/-- R180 to R183: what the profile loader holds after reading the straps and the first 24 bytes that the memory
answers with. -/
def Loader.read (straps : Straps) (answered : List Byte) : Loader :=
  let memory := answered.take 24
  let good := profileGood memory
  { station := straps.numberPins.toNat + 1, modem := straps.modem, port2 := straps.port2,
    profile := if good then readProfile memory else Profile.defaults,
    source := if good then .read else .default, cause := .power, count := 0 }

/-- R1, R2: a fitted port as a reset leaves it, its hook input at `level`. -/
def Port.reset (level : HookLevel) (now : Nat) : Port :=
  { Port.atReset with level := level, makeStart := if level = .make then some now else none }

/-- R183: every block's power-up values, before the first STATE is placed. What stands at the pins and detectors, the
queue of commands and the number of the next draw are kept (assumptions 5, 2 and 6). -/
def powerUpValues (l : Loader) (s : State) : State :=
  { State.reset with
    port1 := Port.reset s.port1.level 0
    port2 := if l.port2 then Port.reset s.port2.level 0
             else { Port.atReset with st := .absent, level := s.port2.level }
    ring := { State.reset.ring with voltage := s.ring.voltage }
    chan := { State.reset.chan with
              stateSlot := none, tx := .idle, count := 0, quietFrom := none, jamEnd := none,
              carrier := s.chan.carrier, draws := s.chan.draws }
    announce := { timerEnd := none, count := 0 }
    modem := { State.reset.modem with linkUp := s.modem.linkUp, requestWaiting := s.modem.requestWaiting }
    hold := { State.reset.hold with
              role := if l.modem then .quiet else .absent
              level := l.profile.startLevel
              settleEnd := if l.modem then some (15000 + 2000 * l.station) else none }
    loader := l
    pending := s.pending }

/-- R183: the start event. -/
def startEvent (l : Loader) (s : State) : State :=
  let started := powerUpValues l s
  if l.source = .default then raiseOwn .profileDefault none none started else started

/-! ### Station restart (R184 to R186) -/

/-- R1: the restart of one port. -/
def restartPort (p : PortId) (s : State) : State :=
  if !s.fitted p then s
  else
    let reset := s.onPort p fun q => { Port.reset q.level s.now with discards := q.discards }
    if (s.port p).st = .lockout then clearOwn .handsetLockout (some (portNum p)) reset else reset

/-- R24, R25, R30, R31, R36 to R40: the restart of the ring and cadence unit. -/
def RingUnit.restart (now : Nat) (r : RingUnit) : RingUnit :=
  { r with
    burst := .quiet, burstSince := now, call := .none, burstNo := 0, quietEnd := none, ring1 := PortRing.atReset,
    ring2 := PortRing.atReset, callerEnd := none, windowOpened := false, receiving := false, record := none }

/-- R77, R80, R82, R85, R88, R92: the restart of the loop and park unit; the last park id is kept. -/
def LoopUnit.restart (u : LoopUnit) : LoopUnit :=
  { loop := .opened, lead := none, recallState := .none, park := none, lastParkId := u.lastParkId, incoming := none,
    took := none }

/-- R50, R54, R58: the restart of the transceiver; the clash timer and the counters are kept. -/
def Channel.restart (c : Channel) : Channel :=
  { c with
    noticeSlot := none, callSlot := none, faultSlot := none, stateSlot := none, surveySlot := none, flight := none,
    tx := .idle, window := 8, gapMet := false, quietFrom := none, jamEnd := none, rx := .hunt, slots := [] }

/-- R127: the restart of the modem port and the holding controller, on a station with the modem strap. -/
def restartHolding (s : State) : State :=
  if !s.isModem then s
  else
    let emptied := s.onModem fun m => { m with slot := none, queue := [], request := none }
    let dropped :=
      if s.hold.role = .training ∨ s.hold.role = .holding then issue .drop emptied else emptied
    let quiet := enterQuiet dropped
    (quiet.onHold fun h =>
      { h with window := none, trainingEnd := none, retrainEnd := none, watch := none, s16 := none, upSince := none,
               underWay := false }).onModem fun m => { m with braced := false }

/-- R128, R140: the restart of the survey unit. -/
def restartSurvey (s : State) : State :=
  s.onSurvey fun v =>
    let due := s.deadline 120000
    if v.stage = .idle then { v with dueEnd := due, deferrals := 0 } else { endSurvey due v with deferrals := 0 }

/-- R167: the fault log abandons its run. -/
def FaultLog.abandonRun (l : FaultLog) : FaultLog := { l with run := none, pendingRun := none }

/-- R184, R185: every block's restart values, before the restart's STATE is placed. -/
def restartValues (cause : RestartCause) (s : State) : State :=
  let ports := (restartPort .two (restartPort .one s)).onSender fun t => { t with sender := .free }
  let line := ((ports.onRing (RingUnit.restart s.now)).onLine fun _ =>
    { st := .idle, useRun := 0, lowRun := 0, goodRun := 0, drop := 0 }).onLoop LoopUnit.restart
  let channel := ((line.onChan Channel.restart).onAnnounce fun _ => { timerEnd := none, count := 0 }).onPeers fun _ => []
  let holding := restartHolding channel
  let rest := (restartSurvey holding).onLog FaultLog.abandonRun
  (rest.onResp fun r => { r with outstanding := none, pendingMark := none, restartEnd := none }).onLoader fun l =>
    { l with cause := cause, count := satInc 255 l.count }

end Sys2Proof.Machine
end

