-- ==== Sys2Proof/Machine/Finish.lean ====
section
/-! DEFINITION. The end of an event: what its changes hand on once, as they stand then (R14, R61, R62, R156, R158, R178,
R179), and the outcome of a command. -/

namespace Sys2Proof.Machine

/-! ### The lamps and the FAULT_PRESENT flag (R101, R178, R179) -/

/-- R178: a role in which the LINE lamp flashes. -/
def Role.flashes : Role → Bool
  | .training => true
  | .recovering => true
  | .resting => true
  | _ => false

/-- R178: the LINE lamp at the end of an event that leaves the role `r`. -/
def lineLampFor (r : Role) (now : Nat) (lamp : LineLamp) : LineLamp :=
  if r = .holding then .steady
  else if r.flashes then
    match lamp with
    | .flashing lit ends => .flashing lit ends
    | _ => .flashing true (now + 500)
  else .off

/-- R101, R178, R179: both lamps and the FAULT_PRESENT flag follow the role and the log. -/
def showLamps (s : State) : State :=
  (s.onLamps fun l => { line := lineLampFor s.hold.role s.now l.line, fault := s.log.anyActive }).onModem fun m =>
    { m with faultPresent := s.isModem && s.log.anyActive }

/-! ### The STATE announcement (R60 to R62, R99) -/

/-- R99: the day clock field. -/
def carriedClock (c : DayClock) : CarriedClock :=
  { quality := match c.quality with
               | .caller => 1
               | .peer => 2
    month := c.month, day := c.day, hour := c.hour, minute := c.minute }

/-- R60: the park offer, present in phase OFFERED. -/
def State.offer (s : State) : Option (Nat × Nat) :=
  match s.loop.park with
  | some k => if k.phase = .offered then some (k.target, k.parkId) else none
  | none => none

/-- R60: the STATE as the blocks stand. -/
def State.stateFields (s : State) : StateFields :=
  { cause := s.loader.cause, count := s.loader.count, port1 := s.port1.st, port2 := s.port2.st, loop := s.loop.loop,
    role := s.hold.role, braced := s.modem.braced, offer := s.offer,
    took := s.loop.took.map fun t => (t.parker, t.parkId), clock := s.time.clock.map carriedClock,
    ownFaults := s.log.ownActive }

/-- R61: the fields whose change places a STATE. -/
def State.announced (s : State) : StateFields := { s.stateFields with cause := .power, count := 0, clock := none }

/-- R61, R62: a STATE is built and placed, the announce timer restarts, and the tenth placement asks for a FAULT. -/
def placeState (s : State) : State :=
  let fields := s.stateFields
  let tenth := decide (9 ≤ s.announce.count)
  let placed := place (fun c => { c with stateSlot := some fields }) s
  (placed.onAnnounce fun a =>
    { timerEnd := s.deadline (1000 * s.profile.announceInterval), count := if tenth then 0 else a.count + 1 }).onLog
    fun l => { l with snapshotAsked := l.snapshotAsked || tenth }

/-! ### The FAULT snapshot (R158) -/

/-- R158: the FAULT that the event asks for is placed. -/
def placeFault (s : State) : State :=
  if s.log.snapshotAsked then
    (place (fun c => { c with faultSlot := some s.log.snapshot }) s).onLog fun l => { l with snapshotAsked := false }
  else s

/-! ### The end of the event -/

/-- What an event hands on at its end, from the state `s0` before it and the state `s` its rules leave; `force` places a
STATE whether or not a field of R61 changed. -/
def finish (force : Bool) (s0 s : State) : State :=
  let shown := showLamps (senderTake s)
  placeFault (if force || decide (shown.announced ≠ s0.announced) then placeState shown else shown)

/-- The outcome of a command that comes about: its effect and what it hands on. -/
def event (f : State → State) (s : State) : Host.Outcome State Fault Refusal := .next (finish false s (f s))

/-- The outcome of a command that places a STATE whatever it changes (R61: the start, a restart, the announce timer). -/
def placingEvent (f : State → State) (s : State) : Host.Outcome State Fault Refusal := .next (finish true s (f s))

/-- A command with a condition: where the condition fails the command has not come about (assumption 2). -/
def eventIf (c : Bool) (f : State → State) (s : State) : Host.Outcome State Fault Refusal :=
  if c then event f s else .next s

/-- R184, R185: a station restart with a cause. -/
def restartEvent (cause : RestartCause) (s : State) : Host.Outcome State Fault Refusal :=
  placingEvent (restartValues cause) s

end Sys2Proof.Machine
end

