-- ==== Sys2Proof/Machine/Codes.lean ====
section
/-! DEFINITION. Meanings of the flash code and service code commands (01, R15 to R22): a digit recognised at a port that
takes it as that code is routed (assumption 11). -/

namespace Sys2Proof.Machine

/-- R16. -/
def execTransfer (p : PortId) (station : Nat) (s : State) : Host.Outcome State Fault Refusal :=
  eventIf (s.takesTransfer p station) (routeDigit p (.num (Fin.ofNat 10 station)) false) s

/-- R15. -/
def execFlashCodeRefused (p : PortId) (d : Digit) (s : State) : Host.Outcome State Fault Refusal :=
  eventIf (s.refusesFlashCode p d) (routeDigit p d false) s

/-- R17. -/
def execLocalService (p : PortId) (s : State) : Host.Outcome State Fault Refusal :=
  eventIf (s.flashConnected p) (routeDigit p (.num 9) false) s

/-- R18. -/
def execRetrieve (p : PortId) (s : State) : Host.Outcome State Fault Refusal :=
  eventIf (s.flashConnected p || s.flashRefused p) (routeDigit p (.num 0) false) s

/-- R19. -/
def execHashHashEntry (p : PortId) (s : State) : Host.Outcome State Fault Refusal :=
  eventIf (s.takesHash p) (routeDigit p .hash false) s

/-- R20. -/
def execAnnounceTheFaultLog (p : PortId) (s : State) : Host.Outcome State Fault Refusal :=
  eventIf (s.takesService p) (routeDigit p (.num 1) false) s

/-- R21. -/
def execSurveyNow (p : PortId) (s : State) : Host.Outcome State Fault Refusal :=
  eventIf (s.takesService p) (routeDigit p (.num 2) false) s

/-- R21. -/
def execServiceCodeRestart (p : PortId) (s : State) : Host.Outcome State Fault Refusal :=
  eventIf (s.takesService p) (routeDigit p (.num 3) false) s

/-- R22. -/
def execLeaveLocal (p : PortId) (s : State) : Host.Outcome State Fault Refusal :=
  eventIf (s.takesService p) (routeDigit p (.num 0) false) s

/-- R22: a digit that is no service code. -/
def Digit.noService : Digit → Bool
  | .num n => decide (3 < n.val)
  | .star => true
  | .hash => true

/-- R22. -/
def execServiceCodeRefused (p : PortId) (d : Digit) (s : State) : Host.Outcome State Fault Refusal :=
  eventIf (s.takesService p && Digit.noService d) (routeDigit p d false) s

end Sys2Proof.Machine
end

