-- ==== Sys2Proof/Machine/Exchange.lean ====
section
/-! DEFINITION. Meanings of the exchange request commands (10), of the lamp's flash (R178) and of power-up (11). -/

namespace Sys2Proof.Machine

/-! ### Requests (R169 to R177) -/

/-- R170. -/
def execSummary (s : State) : Host.Outcome State Fault Refusal :=
  match s.servable fun c => decide (c = 1) with
  | some r => event (serveSummary r) s
  | none => .next s

/-- R171. -/
def execNext (s : State) : Host.Outcome State Fault Refusal :=
  match s.servable fun c => decide (c = 2) with
  | some r => event (serveNext r) s
  | none => .next s

/-- R173. -/
def execClear (s : State) : Host.Outcome State Fault Refusal :=
  match s.servable fun c => decide (c = 3) with
  | some r => event (serveClear r) s
  | none => .next s

/-- R174. -/
def execFigures (s : State) : Host.Outcome State Fault Refusal :=
  match s.servable fun c => decide (c = 4) with
  | some r => event (serveFigures r) s
  | none => .next s

/-- R175. -/
def execSurveyRequest (s : State) : Host.Outcome State Fault Refusal :=
  match s.servable fun c => decide (c = 5) with
  | some r => event (serveSurvey r) s
  | none => .next s

/-- R176. -/
def execRestartRequest (s : State) : Host.Outcome State Fault Refusal :=
  match s.servable fun c => decide (c = 6) with
  | some r => event (serveRestart r) s
  | none => .next s

/-- R177. -/
def execUnknownRequest (s : State) : Host.Outcome State Fault Refusal :=
  match s.servable fun c => !requestCodes.contains c with
  | some r => event (serveUnknown r) s
  | none => .next s

/-- R176. -/
def execRestartDeadlineExpiry (s : State) : Host.Outcome State Fault Refusal :=
  if expired s.resp.restartEnd s.now then restartEvent .remote s else .next s

/-! ### The LINE lamp's flash (R178) -/

/-- R178: a half of the flash has reached its end. -/
def LineLamp.over (now : Nat) : LineLamp → Bool
  | .flashing _ ends => decide (ends ≤ now)
  | _ => false

/-- R178: the lamp toggles. -/
def LineLamp.toggle : LineLamp → LineLamp
  | .flashing lit ends => .flashing (!lit) (ends + 500)
  | l => l

/-- R178. -/
def execLineLampFlash (s : State) : Host.Outcome State Fault Refusal :=
  eventIf (s.lamps.line.over s.now) (fun s => s.onLamps fun l => { l with line := l.line.toggle }) s

/-! ### Power-up (R180 to R183) -/

/-- R183. -/
def execPowerUp (straps : Straps) (memory : List Byte) (s : State) : Host.Outcome State Fault Refusal :=
  placingEvent (startEvent (Loader.read straps memory)) s

end Sys2Proof.Machine
end

