-- ==== Sys2Proof/Machine/Handset.lean ====
section
/-! DEFINITION. Meanings of the handset port commands (01): hook edges and declarations, digits, windows, tones, the
announcement, lockout, and the line-side tone sender. -/

namespace Sys2Proof.Machine

/-! ### Hook (R2 to R4) -/

/-- R2, R3: a make edge. With the hook ON it records the make start; with the hook OFF it ends the break, which is
classified. A break that has already lasted 700 ms is an on-hook first (assumption 10). An unfitted port's input is not
sampled (assumption 5). -/
def makeEdge (p : PortId) (s : State) : State :=
  let edged := s.onPort p fun q => { q with level := .make }
  if !s.fitted p then edged
  else
    match (s.port p).hook, (s.port p).breakStart with
    | .on, _ => edged.onPort p fun q => { q with makeStart := some s.now }
    | .off, none => edged
    | .off, some start =>
      if start + 700 ≤ s.now then
        (declareOnHook p edged).onPort p fun q => { q with makeStart := some s.now }
      else classifyBreak p start (edged.onPort p fun q => { q with breakStart := none })

/-- R2. -/
def execHookMakeEdge (p : PortId) (s : State) : Host.Outcome State Fault Refusal :=
  eventIf (decide ((s.port p).level = .brk)) (makeEdge p) s

/-- R2, R3: a break edge. With the hook ON it forgets the make; with the hook OFF it records the break start. A make
that has already lasted 50 ms is an off-hook first (assumption 10). -/
def breakEdge (p : PortId) (s : State) : State :=
  let edged := s.onPort p fun q => { q with level := .brk }
  if !s.fitted p then edged
  else
    match (s.port p).hook with
    | .on =>
      if (s.port p).makeStart.any (fun m => decide (m + 50 ≤ s.now)) then
        (declareOffHook p edged).onPort p fun q => { q with breakStart := some s.now }
      else edged.onPort p fun q => { q with makeStart := none }
    | .off => edged.onPort p fun q => { q with breakStart := some s.now }

/-- R3. -/
def execHookBreakEdge (p : PortId) (s : State) : Host.Outcome State Fault Refusal :=
  eventIf (decide ((s.port p).level = .make)) (breakEdge p) s

/-- R2: the make of a port with the hook ON has lasted 50 ms. -/
def State.makeHeld (s : State) (p : PortId) : Bool :=
  s.fitted p && decide ((s.port p).hook = .on) && decide ((s.port p).level = .make)
  && (s.port p).makeStart.any fun m => decide (m + 50 ≤ s.now)

/-- R8, R9. -/
def execOffHook (p : PortId) (s : State) : Host.Outcome State Fault Refusal :=
  eventIf (s.makeHeld p) (declareOffHook p) s

/-- R3: the break of a port with the hook OFF has lasted 700 ms. -/
def State.breakHeld (s : State) (p : PortId) : Bool :=
  s.fitted p && decide ((s.port p).hook = .off)
  && (s.port p).breakStart.any fun b => decide (b + 700 ≤ s.now)

/-- R11. -/
def execOnHook (p : PortId) (s : State) : Host.Outcome State Fault Refusal :=
  eventIf (s.breakHeld p) (declareOnHook p) s

/-! ### Digits (R4, R5) -/

/-- R4: the make after the latest pulse has lasted 300 ms (assumption 42). -/
def State.trainOver (s : State) (p : PortId) : Bool :=
  (s.port p).breakStart.isNone && (s.port p).makeStart.any fun m => decide (m + 300 ≤ s.now)

/-- R4. -/
def execPulseTrainEnd (p : PortId) (s : State) : Host.Outcome State Fault Refusal :=
  match (s.port p).train with
  | some count => eventIf (s.trainOver p) (endTrain p count) s
  | none => .next s

/-- R5: a pair that has lasted 40 ms and is not yet recognised. -/
def TonePair.ripe (now : Nat) (t : TonePair) : Bool := !t.recognised && decide (t.onset + 40 ≤ now)

/-- R5. -/
def execToneDigit (p : PortId) (s : State) : Host.Outcome State Fault Refusal :=
  match (s.port p).pair with
  | some t =>
    eventIf ((s.port p).st.hearsTones && t.ripe s.now)
      (fun s => routeDigit p t.digit false (s.onPort p fun q => { q with pair := some { t with recognised := true } })) s
  | none => .next s

/-- R5. An onset while an earlier pair is still held replaces it, whatever its digit, its age and its recognition
(assumption 52). -/
def execTonePairOnset (p : PortId) (d : Digit) (s : State) : Host.Outcome State Fault Refusal :=
  eventIf (s.port p).st.hearsTones
    (fun s => s.onPort p fun q => { q with pair := some { digit := d, onset := s.now, recognised := false } }) s

/-- R5. A pair that ceases at its fortieth millisecond, taken before TONE_DIGIT, is forgotten unrecognised
(assumption 47). -/
def execTonePairCeased (p : PortId) (s : State) : Host.Outcome State Fault Refusal :=
  eventIf (s.port p).pair.isSome (fun s => s.onPort p fun q => { q with pair := none }) s

/-! ### The line-side tone sender (R14) -/

/-- R14: the tone pair has lasted its 80 ms. -/
def Sender.toneOver (now : Nat) : Sender → Bool
  | .tone _ _ ends => decide (ends ≤ now)
  | _ => false

/-- R14: the silence has lasted its 80 ms. -/
def Sender.silenceOver (now : Nat) : Sender → Bool
  | .silence ends => decide (ends ≤ now)
  | _ => false

/-- R14. -/
def execDigitToneEnd (s : State) : Host.Outcome State Fault Refusal :=
  eventIf (s.sender.sender.toneOver s.now)
    (fun s => s.onSender fun t => { t with sender := .silence (s.now + 80) }) s

/-- R14; the end of the event takes the next digit. -/
def execToneSenderFree (s : State) : Host.Outcome State Fault Refusal :=
  eventIf (s.sender.sender.silenceOver s.now) (fun s => s.onSender fun t => { t with sender := .free }) s

/-! ### Windows (R15, R19) -/

/-- R15. -/
def execFlashWindowExpiry (p : PortId) (s : State) : Host.Outcome State Fault Refusal :=
  eventIf (expired (s.port p).flashEnd s.now)
    (fun s =>
      let closed := s.onPort p fun q => { q with flashEnd := none }
      if (s.port p).st = .connected then recallRequest (closed.onPort p fun q => { q with mute := false })
      else closed) s

/-- R19. -/
def execHashWindowExpiry (p : PortId) (s : State) : Host.Outcome State Fault Refusal :=
  eventIf (expired ((s.port p).hashWin.map HashWindow.expiry) s.now)
    (fun s => s.onPort p fun q =>
      { q with hashWin := none, mute := q.mute && !(q.hashWin.any HashWindow.afterFlash) }) s

/-! ### Tones and the announcement (R7, R20) -/

/-- R7: a one-shot tone has reached its end. -/
def Tone.shotOver (now : Nat) : Tone → Bool
  | .oneShot _ ends => decide (ends ≤ now)
  | _ => false

/-- R7. -/
def execOneShotToneEnd (p : PortId) (s : State) : Host.Outcome State Fault Refusal :=
  eventIf ((s.port p).tone.shotOver s.now) (fun s => s.onPort p fun q => { q with tone := q.st.tone s.now }) s

/-- R7: the length of the off period of a state tone. -/
def PortState.offPeriod : PortState → Nat
  | .loc => 1900
  | _ => 500

/-- R7: the length of the on period of a state tone. -/
def PortState.onPeriod : PortState → Nat
  | .loc => 100
  | _ => 500

/-- R7: a period of the state tone has reached its end. -/
def Tone.periodOver (now : Nat) : Tone → Bool
  | .stateTone _ ends => decide (ends ≤ now)
  | _ => false

/-- R7: the next period of a state tone. -/
def Tone.nextPeriod (st : PortState) : Tone → Tone
  | .stateTone on ends => .stateTone (!on) (ends + if on then st.offPeriod else st.onPeriod)
  | t => t

/-- R7. -/
def execStateTonePeriod (p : PortId) (s : State) : Host.Outcome State Fault Refusal :=
  eventIf ((s.port p).tone.periodOver s.now)
    (fun s => s.onPort p fun q => { q with tone := q.tone.nextPeriod q.st }) s

/-- R20: the announcement's present period has reached its end. -/
def Announcement.over (now : Nat) (a : Announcement) : Bool := decide (a.ends ≤ now)

/-- R20. -/
def execAnnouncementEnd (p : PortId) (s : State) : Host.Outcome State Fault Refusal :=
  eventIf ((s.port p).ann.any fun a => a.last && a.over s.now) (endAnnouncement p) s

/-- R20. -/
def execAnnouncementBeepPeriod (p : PortId) (s : State) : Host.Outcome State Fault Refusal :=
  eventIf ((s.port p).ann.any fun a => !a.last && a.over s.now)
    (fun s => s.onPort p fun q => { q with ann := q.ann.map Announcement.advance }) s

/-! ### Lockout and the code 3 restart (R21, R23) -/

/-- R23: the lockout timer expires. -/
def enterLockout (p : PortId) (s : State) : State :=
  raiseOwn .handsetLockout (some (portNum p)) none (s.onPort p fun q =>
    { q.enter .lockout s.now with tone := .none, ann := none, flashEnd := none, hashWin := none, lockoutEnd := none })

/-- R23. -/
def execLockout (p : PortId) (s : State) : Host.Outcome State Fault Refusal :=
  eventIf ((decide ((s.port p).st = .loc) || decide ((s.port p).st = .refused)) && expired (s.port p).lockoutEnd s.now)
    (enterLockout p) s

/-- R21, R184. -/
def execLocalRestartDue (p : PortId) (s : State) : Host.Outcome State Fault Refusal :=
  if expired (s.port p).restartAt s.now then restartEvent .loc s else .next s

end Sys2Proof.Machine
end

