-- ==== Sys2Proof/Machine/LinePark.lean ====
section
/-! DEFINITION. Meanings of the line monitor, loop and park commands (05), and of the day clock's advance (06). -/

namespace Sys2Proof.Machine

/-! ### The line monitor (R74 to R76) -/

/-- R74: the sample is set aside. -/
def State.setsAside (s : State) : Bool :=
  decide (s.ring.burst ≠ .quiet) || decide (s.survey.stage = .load) || s.loop.recallState.breaking

/-- R74: the line monitor after a counted sample of 800 codes or more. -/
def LineMonitor.high (m : LineMonitor) : LineMonitor := { m with st := .idle, useRun := 0, lowRun := 0, drop := 0 }

/-- R74: the line monitor after a counted sample of 64 to 799 codes. -/
def LineMonitor.mid (m : LineMonitor) : LineMonitor :=
  let run := satInc 3 m.useRun
  match m.st with
  | .idle => { m with useRun := run, lowRun := 0, drop := 0, st := if run = 3 then .inUse else .idle }
  | .inUse => { m with lowRun := 0, drop := 0 }
  | .dead => { m with useRun := run, lowRun := 0, drop := 0, st := if run = 3 then .inUse else .dead }

/-- R74, R76: entry to DEAD. -/
def LineMonitor.die (m : LineMonitor) : LineMonitor := { m with st := .dead, useRun := 0, drop := 0, goodRun := 0 }

/-- R74: the line monitor after a counted sample below 64 codes. -/
def LineMonitor.low (m : LineMonitor) : LineMonitor :=
  let run := satInc 40 m.lowRun
  match m.st with
  | .idle => if run = 40 then { m with lowRun := run }.die else { m with useRun := 0, lowRun := run }
  | .inUse =>
    if run = 40 then { m with lowRun := run }.die else { m with lowRun := run, drop := satInc 40 m.drop }
  | .dead => { m with useRun := 0 }

/-- R76: the good run after a counted sample; at 40 it stays until the next entry to DEAD (assumption 33). -/
def LineMonitor.good (v : Nat) (m : LineMonitor) : LineMonitor :=
  if m.goodRun = 40 then m
  else if 64 ≤ v then { m with goodRun := satInc 40 m.goodRun }
  else { m with goodRun := 0 }

/-- R74, R76: the line monitor after a counted sample. -/
def LineMonitor.sample (v : Nat) (m : LineMonitor) : LineMonitor :=
  let g := m.good v
  if 800 ≤ v then g.high else if 64 ≤ v then g.mid else g.low

/-- R75: the sample ends a drop that is a disconnect clear. -/
def LineMonitor.clears (v : Nat) (m : LineMonitor) : Bool :=
  decide (m.st = .inUse) && decide (64 ≤ v) && decide (2 ≤ m.drop ∧ m.drop ≤ 20)

/-- R74 to R76: a counted sample, and what it reports. -/
def lineSample (v : Nat) (s : State) : State :=
  let next := s.line.sample v
  let cleared := s.line.clears v
  let died := decide (next.st = .dead) && decide (s.line.st ≠ .dead)
  let used := decide (next.st = .inUse) && decide (s.line.st ≠ .inUse)
  let recovered := decide (next.goodRun = 40) && decide (s.line.goodRun ≠ 40)
  let sampled := s.onLine fun _ => next
  let healed := if recovered then clearOwn .lineDown none sampled else sampled
  let fallen := if died then raiseOwn .lineDown none none healed else healed
  let dropped := if cleared || died then releasePark (portsToRefused fallen) else fallen
  if used then abortMeasuring (answerCall dropped) else dropped

/-- R74. -/
def execLineSample (v : Code) (s : State) : Host.Outcome State Fault Refusal :=
  eventIf (!s.setsAside) (lineSample v.toNat) s

/-! ### Leads and the recall (R80 to R82) -/

/-- R80: the end of a lead. -/
def Lead.ends (l : Lead) : Nat := leadEndsAt l.placed l.sent

/-- R80, R81. -/
def execLeadEnd (s : State) : Host.Outcome State Fault Refusal :=
  match s.loop.lead with
  | some l => eventIf (decide (l.ends ≤ s.now)) (endLead l.acts) s
  | none => .next s

/-- R82: the end of the break. -/
def Recall.breakEnd : Recall → Option Nat
  | .brk ends => some ends
  | _ => Option.none

/-- R82. -/
def execRecallBreakEnd (s : State) : Host.Outcome State Fault Refusal :=
  eventIf (expired s.loop.recallState.breakEnd s.now) endBreak s

/-! ### Call transfer (R85, R88, R90, R91) -/

/-- R90: the offer ends untaken. -/
def parkOfferExpiry (k : Park) (s : State) : State :=
  let called := placeCall .withdrawn k.target k.parkId s
  if (s.port k.port).st = .refused then connectHeld k.port called
  else
    setDemand .recall k.port (called.onLoop fun u =>
      { u with park := some { k with phase := .recalling, expiry := s.deadline 30000 } })

/-- R90. -/
def execParkOfferExpiry (s : State) : Host.Outcome State Fault Refusal :=
  match s.loop.park with
  | some k => eventIf (decide (k.phase = .offered) && expired k.expiry s.now) (parkOfferExpiry k) s
  | none => .next s

/-- R91. -/
def execRecallingExpiry (s : State) : Host.Outcome State Fault Refusal :=
  match s.loop.park with
  | some k => eventIf (decide (k.phase = .recalling) && expired k.expiry s.now) releasePark s
  | none => .next s

/-- R85. -/
def execIncomingTransferExpiry (s : State) : Host.Outcome State Fault Refusal :=
  eventIf (s.loop.incoming.any fun r => r.taking.isNone && decide (r.expiry ≤ s.now)) removeIncoming s

/-- R88. -/
def execTookTransferExpiry (s : State) : Host.Outcome State Fault Refusal :=
  eventIf (s.loop.took.any fun t => decide (t.expiry ≤ s.now)) (fun s => s.onLoop fun u => { u with took := none }) s

/-! ### The day clock (R96) -/

/-- R96: one rise of the seconds count. -/
def execDayClockAdvance (s : State) : Host.Outcome State Fault Refusal :=
  eventIf (decide (s.time.secTaken < s.secs))
    (fun s => advanceClock (s.onTime fun t => { t with secTaken := t.secTaken + 1 })) s

end Sys2Proof.Machine
end

