-- ==== Sys2Proof/Machine/ModemHold.lean ====
section
/-! DEFINITION. Meanings of the modem port and holding controller commands (07). Each has effect only on a station with
the modem strap (R101). -/

namespace Sys2Proof.Machine

/-! ### The slot (R102, R104) -/

/-- R102, R106: the take of TRAIN or STEP, reported to the holding controller. -/
def underWay (s : State) : State :=
  if s.hold.role = .training then s.onHold fun h => { h with underWay := true } else s

/-- R102, R169, R172: the modem takes the command in the slot; the next one moves in. -/
def takeCommand (c : Command) (s : State) : State :=
  let taken := clearOwn .modemSilent none (s.onModem fun m => { m with slot := none })
  let reported :=
    if c.isTrain then underWay taken else if c.isRespond then deliverAnswer taken else taken
  advanceSlot reported

/-- R102; the take of a RESTART answer is followed by the restart (R176). -/
def execCommandTake (s : State) : Host.Outcome State Fault Refusal :=
  match s.modem.slot with
  | some slot =>
    if !s.isModem then .next s
    else if s.takesRestart slot.cmd then
      placingEvent (fun s => restartValues .remote (takeCommand slot.cmd s)) s
    else event (takeCommand slot.cmd) s
  | none => .next s

/-- R104: the slot's command and the queue are discarded, an answer among them lost. -/
def discardCommands (slot : CommandSlot) (s : State) : State :=
  let emptied := s.onModem fun m => { m with slot := none, queue := [] }
  if slot.cmd.isRespond || s.modem.queue.any Command.isRespond then answerLost emptied else emptied

/-- R104. -/
def takeDeadline (slot : CommandSlot) (s : State) : State :=
  let down := setLink .down (discardCommands slot (raiseOwn .modemSilent none none s))
  match s.hold.role with
  | .holding => linkDrop down
  | .training => enterRecovering s.hold.level (s.now + 2000) down
  | _ => down

/-- R104. -/
def execTakeDeadlineExpiry (s : State) : Host.Outcome State Fault Refusal :=
  match s.modem.slot with
  | some slot => eventIf (s.isModem && decide (slot.deadline ≤ s.now)) (takeDeadline slot) s
  | none => .next s

/-! ### Reports (R105) -/

/-- R105, R113 to R115, R121: a status report. -/
def statusReport (link level margin : Nat) (s : State) : State :=
  let l := linkOf link
  let clamped := clamp 1 8 level
  let set := (setLink l s).onModem fun m => { m with level := some clamped, linkUp := decide (l = .up) }
  holdingReport s.modem.link l clamped (min 400 margin) set

/-- R105. -/
def execStatusReport (link level : Byte) (margin : Half) (s : State) : Host.Outcome State Fault Refusal :=
  eventIf s.isModem (statusReport link.toNat level.toNat margin.toNat) s

/-- R105: LINK_UP falls. -/
def linkUpFall (s : State) : State :=
  let fallen := s.onModem fun m => { m with linkUp := false }
  if s.modem.link = .up then holdingReport .up .down (s.modem.level.getD 1) 0 (setLink .down fallen) else fallen

/-- R105. -/
def execLinkUpFall (s : State) : Host.Outcome State Fault Refusal := eventIf s.isModem linkUpFall s

/-- R105, R168: the request record is fetched into the slot; the modem then lowers the flag. -/
def requestWaitingRise (r : Request) (s : State) : State :=
  let tallied :=
    if s.modem.request.isSome then s.onResp fun p => { p with overwrites := satInc 65535 p.overwrites } else s
  tallied.onModem fun m => { m with request := some r, requestWaiting := false }

/-- R105, R168. -/
def execRequestWaitingRise (code tag : Byte) (s : State) : Host.Outcome State Fault Refusal :=
  eventIf s.isModem (requestWaitingRise { code := code, tag := tag }) s

/-! ### The holding controller's timers (R111, R113, R116, R117, R120, R125) -/

/-- R111: the settle timer expires, and the controller reviews. -/
def settleExpiry (s : State) : State := if s.anyHolder then enterRole .standby s else trainOrRest s

/-- R111. -/
def execSettleTimerExpiry (s : State) : Host.Outcome State Fault Refusal :=
  eventIf (decide (s.hold.role = .quiet) && expired s.hold.settleEnd s.now) settleExpiry s

/-- R113. -/
def execTrainingTimerExpiry (s : State) : Host.Outcome State Fault Refusal :=
  eventIf (decide (s.hold.role = .training) && expired s.hold.trainingEnd s.now) trainingFailed s

/-- R116. -/
def execRetrainDelayExpiry (s : State) : Host.Outcome State Fault Refusal :=
  eventIf (decide (s.hold.role = .recovering) && expired s.hold.retrainEnd s.now) trainOrRest s

/-- R116, R117: the oldest stamp reaches 3600 s. -/
def stampExpiry (s : State) : State :=
  let removed := s.onHold fun h => { h with history := h.history.drop 1 }
  if s.hold.role = .resting ∧ removed.hold.history.length < s.profile.retrainBudget then
    issueTrain s.hold.level removed
  else removed

/-- R117. -/
def execRetrainStampExpiry (s : State) : Host.Outcome State Fault Refusal :=
  eventIf (s.isModem && s.hold.history.head?.any fun h => decide (h + 3600 ≤ s.secs)) stampExpiry s

/-- R120. -/
def braceEnd (s : State) : State :=
  issue .unbrace ((s.onHold fun h => { h with window := none }).onModem fun m => { m with braced := false })

/-- R120. -/
def execBraceWindowEnd (s : State) : Host.Outcome State Fault Refusal :=
  eventIf (s.hold.window.any fun w => decide (w.ends ≤ s.now)) braceEnd s

/-- R125. -/
def execStepWatchExpiry (s : State) : Host.Outcome State Fault Refusal :=
  eventIf (s.hold.watch.any fun w => decide (w.expiry ≤ s.now)) (fun s => s.onHold fun h => { h with watch := none }) s

end Sys2Proof.Machine
end

