-- ==== Sys2Proof/Machine/Processing.lean ====
section
/-! DEFINITION. Meanings of the commands that process a delivered frame (03, R55 to R57), and of the peer table's
ageing and the announce timer (04). -/

namespace Sys2Proof.Machine

/-! ### Processing (R55, R56) -/

/-- R65, R85, R86, R88, R89, R98. -/
def execState (s : State) : Host.Outcome State Fault Refusal :=
  match s.processable .state with
  | some f => event (fun s => applyState f (freeDelivered s)) s
  | none => .next s

/-- R66, R118, R138. -/
def execNotice (s : State) : Host.Outcome State Fault Refusal :=
  match s.processable .notice with
  | some f => event (fun s => applyNotice f (freeDelivered s)) s
  | none => .next s

/-- R83. -/
def execCall (s : State) : Host.Outcome State Fault Refusal :=
  match s.processable .call with
  | some f => event (fun s => applyCall f (freeDelivered s)) s
  | none => .next s

/-- R159 to R161. -/
def execFault (s : State) : Host.Outcome State Fault Refusal :=
  match s.processable .fault with
  | some f => event (fun s => applyFault f (freeDelivered s)) s
  | none => .next s

/-- R57, R67, R163: on a station with the modem strap the slot stays PROCESSING until the run it asks for ends. -/
def execSurvey (s : State) : Host.Outcome State Fault Refusal :=
  match s.processable .survey with
  | some f =>
    event (fun s =>
      if s.isModem then askRun true (applySurvey f (holdDelivered s)) else applySurvey f (freeDelivered s)) s
  | none => .next s

/-! ### Ageing (R69, R70, R72) -/

/-- R69, R72. -/
def peerSilenceExpiry (station : Nat) (s : State) : State :=
  reportPeer station (s.shownLoop station)
    (raiseOwn .peerSilent (some station) none (onPeer station (Peer.silence s.now) s))

/-- R69. -/
def execPeerSilenceExpiry (station : Nat) (s : State) : Host.Outcome State Fault Refusal :=
  eventIf ((s.peer station).any fun e => e.present && expired e.silenceEnd s.now) (peerSilenceExpiry station) s

/-- R70, R72. -/
def peerRemovalExpiry (station : Nat) (s : State) : State :=
  reportPeer station (s.shownLoop station)
    (s.onPeers fun t => t.filter fun e => decide (e.number ≠ station))

/-- R70. -/
def execPeerRemovalExpiry (station : Nat) (s : State) : Host.Outcome State Fault Refusal :=
  eventIf ((s.peer station).any fun e => !e.present && expired e.removalEnd s.now) (peerRemovalExpiry station) s

/-! ### The announce timer (R61) -/

/-- R61. -/
def execAnnounceTimerExpiry (s : State) : Host.Outcome State Fault Refusal :=
  if expired s.announce.timerEnd s.now then placingEvent id s else .next s

end Sys2Proof.Machine
end

