-- ==== Sys2Proof/Machine/Ringing.lean ====
section
/-! DEFINITION. Meanings of the ringing and caller display commands (02). -/

namespace Sys2Proof.Machine

/-! ### The detector (R24) -/

/-- R24. Voltage that reappears in ENDING at or past 100 ms, taken before BURST_END, continues the burst (assumption
53). -/
def RingUnit.voltageOn (now : Nat) (r : RingUnit) : RingUnit :=
  match r.burst with
  | .quiet => { r with voltage := true, burst := .starting, burstSince := now }
  | .ending => { r with voltage := true, burst := .burst, burstSince := now }
  | _ => { r with voltage := true }

/-- R24. Voltage that ceases in STARTING at or past 100 ms, taken before BURST_START, declares no burst (assumption
53). -/
def RingUnit.voltageOff (now : Nat) (r : RingUnit) : RingUnit :=
  match r.burst with
  | .starting => { r with voltage := false, burst := .quiet, burstSince := now }
  | .burst => { r with voltage := false, burst := .ending, burstSince := now }
  | _ => { r with voltage := false }

/-- R24. -/
def execRingVoltageOn (s : State) : Host.Outcome State Fault Refusal :=
  event (fun s => s.onRing (RingUnit.voltageOn s.now)) s

/-- R24. -/
def execRingVoltageOff (s : State) : Host.Outcome State Fault Refusal :=
  event (fun s => s.onRing (RingUnit.voltageOff s.now)) s

/-! ### Bursts (R25 to R28, R31, R35, R36, R39, R40) -/

/-- R25, R28, R29, R36: the call begins: burst 1, an empty record, a window yet to open, clear sent marks, each fitted
port's admission decided. -/
def beginCall (s : State) : State :=
  let begun := s.onRing fun r => { r with call := .inProgress, burstNo := 1, record := none, windowOpened := false }
  let one := begun.onRingOf .one fun r => { r with sent := false, admitted := s.fitted .one && s.admits .one }
  one.onRingOf .two fun r => { r with sent := false, admitted := s.fitted .two && s.admits .two }

/-- R25, R27: the call logic counts the burst. -/
def countBurst (s : State) : State :=
  match s.ring.call with
  | .none => beginCall s
  | .inProgress => s.onRing fun r => { r with burstNo := satInc 255 r.burstNo }
  | .answered => s

/-- R24 to R28: a burst start. -/
def burstStart (s : State) : State :=
  let declared := abortMeasuring (s.onRing fun r => { r with burst := .burst, quietEnd := none })
  let braced := if s.isModem then braceNotice 60 declared else declared
  let counted := closeCallerWindow (abandonSends (countBurst braced))
  let gated := openMirrorGate .two (openMirrorGate .one counted)
  if gated.ring.call = .inProgress then ringForBurst .two (ringForBurst .one gated) else gated

/-- R24: the raw edge that entered the present burst state lies 100 ms back. -/
def RingUnit.persisted (now : Nat) (r : RingUnit) : Bool := decide (r.burstSince + 100 ≤ now)

/-- R25. -/
def execBurstStart (s : State) : Host.Outcome State Fault Refusal :=
  eventIf (decide (s.ring.burst = .starting) && s.ring.persisted s.now) burstStart s

/-- R39: the send moments of a burst end. -/
def burstEndMoment (p : PortId) (s : State) : State := if s.momentAtBurstEnd p then sendMoment p s else s

/-- R25, R36: the burst that ends is burst 1 of a call, IN_PROGRESS or ANSWERED. In ANSWERED the burst number stands, so
a later burst finds it at 1 too; the window has then been opened, and it does not reopen in the same call. -/
def RingUnit.endsBurst1 (r : RingUnit) : Bool :=
  decide (r.call ≠ .none) && decide (r.burstNo = 1) && !r.windowOpened

/-- R24, R25, R31, R35, R36, R39: a burst end. That of burst 1 opens the caller window, also where the call has been
answered during the burst. -/
def burstEnd (s : State) : State :=
  let declared := s.onRing fun r => { r with burst := .quiet }
  let gated := closeMirrorGate .two (closeMirrorGate .one declared)
  let timed := if s.ring.call = .none then gated else gated.onRing fun r => { r with quietEnd := s.deadline 6000 }
  let window :=
    if s.ring.endsBurst1 then timed.onRing fun r => { r with callerEnd := s.deadline 4000, windowOpened := true }
    else timed
  burstEndMoment .two (burstEndMoment .one window)

/-- R25. -/
def execBurstEnd (s : State) : Host.Outcome State Fault Refusal :=
  eventIf (decide (s.ring.burst = .ending) && s.ring.persisted s.now) burstEnd s

/-- R26: the quiet timer expires. -/
def quietTimerExpiry (s : State) : State :=
  let ended := s.onRing fun r => { r with quietEnd := none, call := .none }
  if s.ring.call = .inProgress then endExchangeRinging ended else ended

/-- R26. -/
def execQuietTimerExpiry (s : State) : Host.Outcome State Fault Refusal :=
  eventIf (expired s.ring.quietEnd s.now) quietTimerExpiry s

/-! ### Patterns and overload (R32, R34, R35) -/

/-- R32: the end of the present period of a pattern, if the generator plays one. -/
def Cadence.ends : Cadence → Option Nat
  | .pattern _ _ _ e => some e
  | _ => none

/-- R32: the generator after the end of a period, `now` the moment at which an on period opens the gate. -/
def PortRing.nextPeriod (now : Nat) (r : PortRing) : PortRing :=
  match r.mode with
  | .pattern k pair true ends =>
    { r with mode := .pattern k pair false (ends + k.period pair false), gateSince := none }
  | .pattern k pair false ends =>
    let next := if pair + 1 < k.pairs.length then pair + 1 else 0
    { r with mode := .pattern k next true (ends + k.period next true), gateSince := some now }
  | _ => r

/-- R32, R35: a period of a pattern ends; an on period completed with drive clears RING_FAULT. -/
def patternPeriodEnd (p : PortId) (s : State) : State :=
  (burstComplete p s).onRingOf p (PortRing.nextPeriod s.now)

/-- R32. -/
def execPatternPeriodEnd (p : PortId) (s : State) : Host.Outcome State Fault Refusal :=
  eventIf (expired (s.ringOf p).mode.ends s.now) (patternPeriodEnd p) s

/-- R34: drive is applied to the port. -/
def State.driven (s : State) (p : PortId) : Bool :=
  decide ((s.port p).st = .ringing) && (s.ringOf p).gateSince.isSome && !(s.ringOf p).cut

/-- R31: stage 1's wave in an open gate: 20 ms high and 20 ms low, repeating, a high half first at each opening. -/
def PortRing.waveHigh (now : Nat) (r : PortRing) : Bool :=
  r.gateSince.any fun opened => decide ((now - opened) % 40 < 20)

/-- R31, R33, R34: the ring drive output of a port stands high: drive is applied and the wave is in a high half. -/
def State.driveHigh (s : State) (p : PortId) : Bool := s.driven p && (s.ringOf p).waveHigh s.now

/-- R34. -/
def execRingOverload (p : PortId) (s : State) : Host.Outcome State Fault Refusal :=
  eventIf (s.driven p)
    (fun s => raiseOwn .ringFault (some (portNum p)) none (s.onRingOf p fun r => { r with cut := true })) s

/-! ### Caller display (R36 to R39) -/

/-- R36: a message already begun is still received. -/
def execCallerWindowExpiry (s : State) : Host.Outcome State Fault Refusal :=
  eventIf (expired s.ring.callerEnd s.now) (fun s => s.onRing fun r => { r with callerEnd := none }) s

/-- R36. -/
def execCallerMessageFirstByte (s : State) : Host.Outcome State Fault Refusal :=
  eventIf s.ring.callerEnd.isSome (fun s => s.onRing fun r => { r with receiving := true }) s

/-- R39: the send moment of a record that becomes not empty. -/
def recordMoment (p : PortId) (s : State) : State := if s.momentAtRecord p then sendMoment p s else s

/-- R37 to R39, R97: a message received to its last byte. -/
def callerMessage (m : CallerMessage) (s : State) : State :=
  let received := s.onRing fun r => { r with receiving := false }
  if !callerValid m then received.onRing fun r => { r with checkFails := satInc 255 r.checkFails }
  else
    let replaced := (overwriteSend .two (overwriteSend .one received)).onRing fun r =>
      { r with record := some (callerRecord m) }
    let set := setFromCaller m.dateTime replaced
    if s.ring.record.isNone then recordMoment .two (recordMoment .one set) else set

/-- R37. -/
def execCallerMessage (m : CallerMessage) (s : State) : Host.Outcome State Fault Refusal :=
  eventIf s.ring.receiving (callerMessage m) s

/-- R39. -/
def execCallerSendEnd (p : PortId) (s : State) : Host.Outcome State Fault Refusal :=
  eventIf (expired (s.ringOf p).sendEnd s.now)
    (fun s => s.onRingOf p fun r => { r with sendEnd := none, sent := true }) s

end Sys2Proof.Machine
end

