-- ==== Sys2Proof/Machine/SurveySteps.lean ====
section
/-! DEFINITION. Meanings of the survey commands (08) and of the end of a localisation run (09). -/

namespace Sys2Proof.Machine

/-! ### Falling due and the lead (R129, R132, R133) -/

/-- R129, R130. -/
def execSurveyDue (s : State) : Host.Outcome State Fault Refusal :=
  eventIf (decide (s.survey.stage = .idle) && expired s.survey.dueEnd s.now) surveyFallsDue s

/-- R132: the end of the survey lead. -/
def SurveyLead.ends (l : SurveyLead) : Nat := leadEndsAt l.placed l.sent

/-- R133: the lead ends; the due test is made again. -/
def surveyLeadEnd (s : State) : State :=
  if s.dueTest then
    s.onSurvey fun v =>
      { v with stage := .opened, lead := none, sums := Sums.zero, taken := 0, sampleAt := 8 * s.now }
  else abortSurvey s

/-- R133. -/
def execSurveyLeadEnd (s : State) : Host.Outcome State Fault Refusal :=
  eventIf (decide (s.survey.stage = .notice) && s.survey.lead.any fun l => decide (l.ends ≤ s.now)) surveyLeadEnd s

/-! ### Samples (R134 to R137) -/

/-- R134 to R137: the unit is in `stage` and the instant of its next sample has come. -/
def State.samples (s : State) (stage : Stage) : Bool :=
  decide (s.survey.stage = stage) && decide (s.survey.sampleAt ≤ 8 * s.now + 7)

/-- R134 to R136: the sample just summed is counted; the sixteenth enters the next stage, whose first sample falls
`wait` units of 125 µs later, and any other is followed 5 ms later. -/
def Survey.counted (next : Stage) (wait : Nat) (v : Survey) : Survey :=
  if v.taken < 15 then { v with taken := v.taken + 1, sampleAt := v.sampleAt + 40 }
  else { v with stage := next, taken := 0, sampleAt := v.sampleAt + wait, loadOn := decide (next = .load) }

/-- R134, R135. -/
def execOpenSample (v : Code) (s : State) : Host.Outcome State Fault Refusal :=
  eventIf (s.samples .opened)
    (fun s => s.onSurvey fun u =>
      { u with sums := { u.sums with openV := u.sums.openV + v.toNat } }.counted .load 800) s

/-- R135, R136. -/
def execLoadSample (v i : Code) (s : State) : Host.Outcome State Fault Refusal :=
  eventIf (s.samples .load)
    (fun s => s.onSurvey fun u =>
      { u with sums := { u.sums with loadV := u.sums.loadV + v.toNat,
                                     loadI := u.sums.loadI + i.toNat } }.counted .earth 0) s

/-- R136, R137. -/
def execEarthSample (tip ring : Code) (s : State) : Host.Outcome State Fault Refusal :=
  eventIf (s.samples .earth)
    (fun s => s.onSurvey fun u =>
      { u with sums := { u.sums with earthTip := u.sums.earthTip + tip.toNat,
                                     earthRing := u.sums.earthRing + ring.toNat } }.counted .noise 0) s

/-- R137: a NOISE sample that is not the last is followed 125 µs later. -/
def Survey.noise (c : Nat) (v : Survey) : Survey :=
  { v with sums := { v.sums with noise := v.sums.noise + distance c 2048 }, taken := v.taken + 1,
           sampleAt := v.sampleAt + 1 }

/-- R145: the figures record replaces the latest own figures, and the survey number counter rises. -/
def Survey.record (f : Figures) (v : Survey) : Survey :=
  { v with figures := some f, number := (v.number + 1) % 256 }

/-- R129, R149: stage IDLE, with the due timer one survey interval on. -/
def Survey.rest (due : Option Nat) (v : Survey) : Survey :=
  { v with stage := .idle, dueEnd := due, sums := Sums.zero, taken := 0, sampleAt := 0, loadOn := false }

/-- R149: the survey completes. -/
def completeSurvey (s : State) : State :=
  let f := s.computeFigures
  let tested := testNoise f (testEarth f (testLoopHigh f (s.onSurvey fun v => baselineStep f (v.record f))))
  let shared := place (fun c => { c with surveySlot := some f }) (clearOwn .surveyBlocked none tested)
  let placed := if s.isModem then askRun false shared else shared
  placed.onSurvey (Survey.rest (s.deadline (60000 * s.profile.surveyInterval)))

/-- R137, R149. -/
def execNoiseSample (c : Code) (s : State) : Host.Outcome State Fault Refusal :=
  eventIf (s.samples .noise)
    (fun s =>
      let summed := s.onSurvey (Survey.noise c.toNat)
      if 255 ≤ s.survey.taken then completeSurvey summed else summed) s

/-! ### Localisation (R166) -/

/-- R166. -/
def execLocalisationRunEnd (s : State) : Host.Outcome State Fault Refusal :=
  eventIf (s.log.run.any fun r => decide (r.ends ≤ s.now)) endRun s

end Sys2Proof.Machine
end

