-- ==== Sys2Proof/Machine/Transceiver.lean ====
section
/-! DEFINITION. Meanings of the station channel commands (03): carrier, the wait, the transmission, reception. -/

namespace Sys2Proof.Machine

/-! ### Carrier (R41, R45, R51, R52) -/

/-- R41, R45. -/
def execCarrierPresent (s : State) : Host.Outcome State Fault Refusal :=
  event (fun s => s.onChan fun c => { c with carrier := true, gapMet := false, quietFrom := none }) s

/-- R55: the FILLING slot becomes FREE. -/
def freeFilling (slots : List RxSlot) : List RxSlot := slots.filter fun x => decide (x ≠ .filling)

/-- R41, R45, R51, R52: the receiver's part of carrier lost. -/
def Channel.carrierLost (c : Channel) : Channel :=
  match c.rx with
  | .frame => { c with rx := .hunt, checkFails := satInc 65535 c.checkFails, slots := freeFilling c.slots }
  | .drain => { c with rx := .hunt }
  | _ => c

/-- R41, R45: the signal of the other sources ends; carrier is absent with it unless the station itself transmits. -/
def Channel.signalEnds (now : Nat) (c : Channel) : Channel :=
  if c.flight.isSome then { c with carrier := false }
  else { c.carrierLost with carrier := false, quietFrom := if c.carrier then some now else c.quietFrom }

/-- R41, R45. -/
def execCarrierAbsent (s : State) : Host.Outcome State Fault Refusal :=
  event (fun s => s.onChan (Channel.signalEnds s.now)) s

/-! ### The wait (R45, R46) -/

/-- R45: the channel has been quiet for `ms` since the moment from which quiet is counted. -/
def Channel.quietFor (c : Channel) (ms now : Nat) : Bool :=
  decide (c.tx = .waiting) && !c.carrierPresent && c.quietFrom.any fun q => decide (q + ms ≤ now)

/-- R45, R46: a wait whose gap is met and whose count stands at 0 completes. -/
def completeIfDone (s : State) : State := if s.chan.count = 0 then waitComplete s else s

/-- R45. -/
def execQuietGapMet (s : State) : Host.Outcome State Fault Refusal :=
  eventIf (s.chan.quietFor 20 s.now && !s.chan.gapMet)
    (fun s => completeIfDone (s.onChan fun c =>
      { c with gapMet := true, quietFrom := c.quietFrom.map fun q => q + 20 })) s

/-- R45. -/
def execBackoffUnit (s : State) : Host.Outcome State Fault Refusal :=
  eventIf (s.chan.quietFor 10 s.now && s.chan.gapMet && decide (0 < s.chan.count))
    (fun s => completeIfDone (s.onChan fun c =>
      { c with count := c.count - 1, quietFrom := c.quietFrom.map fun q => q + 10 })) s

/-! ### The transmission (R47 to R49) -/

/-- R51: the receiver leaves SILENT. -/
def Channel.unsilence (c : Channel) : Channel := if c.rx = .silent then { c with rx := .hunt } else c

/-- R47: the window after a collision. -/
def doubledWindow (w : Nat) : Nat := if w = 8 then 16 else if w = 16 then 32 else 64

/-- R47. -/
def collision (f : Frame) (s : State) : State :=
  let back := s.onChan fun c =>
    { (returnFrame f c).unsilence with
      flight := none, collisions := satInc 65535 c.collisions, window := doubledWindow c.window }
  let cut := if f.kind = .notice then noticeCut back else back
  startWait cut

/-- R47. -/
def execCollision (s : State) : Host.Outcome State Fault Refusal :=
  match s.chan.flight with
  | some f => eventIf (decide (s.chan.tx = .sending)) (collision f) s
  | none => .next s

/-- R48, R49. -/
def sendSuccess (f : Frame) (s : State) : State :=
  let sent := s.onChan fun c =>
    { c.unsilence with
      flight := none, window := 8, sent := satInc 65535 c.sent, tx := .idle,
      jamEnd := if c.pending then s.deadline 30000 else none }
  let reported := if f.kind = .notice then reportNoticeSent sent else sent
  let cleared := clearOwn .channelJam none reported
  if s.chan.pending then startWait cleared else cleared

/-- R48. -/
def execSendSuccess (s : State) : Host.Outcome State Fault Refusal :=
  match s.chan.flight with
  | some f =>
    eventIf (decide (s.chan.tx = .sending) && transmissionOver f s.chan.began s.now) (sendSuccess f) s
  | none => .next s

/-- R49. -/
def execJamTimerExpiry (s : State) : Host.Outcome State Fault Refusal :=
  eventIf (expired s.chan.jamEnd s.now)
    (fun s => raiseOwn .channelJam none none (s.onChan fun c => { c with jamEnd := none })) s

/-! ### Reception (R51 to R54) -/

/-- R51. -/
def Channel.sync (c : Channel) : Channel :=
  if c.slots.length < 2 then { c with rx := .frame, slots := c.slots ++ [.filling] }
  else { c with rx := .drain, overruns := satInc 65535 c.overruns }

/-- R51, R188: the sync search: the latest 16 bits from the pair against the sync word's, in the order they are sent
(assumption 48). -/
def syncMatches (bits : List Bool) : Bool := decide (bits = wireBits syncWord)

/-- R51, R188: the sync search on the latest 16 bits from the pair, by default those of the sync word, whether or not
carrier is reported (assumption 50). -/
def execSyncFound (s : State) (bits : List Bool := syncBits) : Host.Outcome State Fault Refusal :=
  eventIf (decide (s.chan.rx = .hunt) && syncMatches bits) (fun s => s.onChan Channel.sync) s

/-- R52. -/
def execBodyLengthTooLong (len : Byte) (s : State) : Host.Outcome State Fault Refusal :=
  eventIf (decide (s.chan.rx = .frame) && decide (32 < len.toNat))
    (fun s => s.onChan fun c =>
      { c with rx := .drain, formatErrs := satInc 65535 c.formatErrs, slots := freeFilling c.slots }) s

/-- The fate of a frame received to its last check byte (R53, R54). -/
inductive FrameFate where
  | checkFail | formatError | clash
  | delivered (f : RxFrame)
  deriving DecidableEq, Repr

/-- R53: the four tests in their order. -/
def frameFate (own : Nat) (kindSender : Byte) (body : List Byte) (check : Half) : FrameFate :=
  if check ≠ frameCheck (kindSender :: b8 body.length :: body) then .checkFail
  else
    match frameKindOf (kindSender.toNat / 8) with
    | none => .formatError
    | some k =>
      if body.length < k.least then .formatError
      else if kindSender.toNat % 8 + 1 = own then .clash
      else .delivered { kind := k, sender := kindSender.toNat % 8 + 1, body := body }

/-- R53: the FILLING slot becomes DELIVERED. -/
def deliver (f : RxFrame) (slots : List RxSlot) : List RxSlot :=
  slots.map fun x => if x = .filling then .delivered f else x

/-- R53, R54. -/
def frameEnd (kindSender : Byte) (body : List Byte) (check : Half) (s : State) : State :=
  let hunting := s.onChan fun c => { c with rx := .hunt }
  match frameFate s.own kindSender body check with
  | .checkFail =>
    hunting.onChan fun c => { c with checkFails := satInc 65535 c.checkFails, slots := freeFilling c.slots }
  | .formatError =>
    hunting.onChan fun c => { c with formatErrs := satInc 65535 c.formatErrs, slots := freeFilling c.slots }
  | .clash =>
    raiseOwn .numberClash none none (hunting.onChan fun c =>
      { c with slots := freeFilling c.slots, clashEnd := s.deadline 600000 })
  | .delivered f =>
    hunting.onChan fun c => { c with received := satInc 65535 c.received, slots := deliver f c.slots }

/-- R53. -/
def execFrameEnd (kindSender : Byte) (body : List Byte) (check : Half) (s : State) :
    Host.Outcome State Fault Refusal :=
  eventIf (decide (s.chan.rx = .frame) && s.chan.slots.contains .filling && decide (body.length ≤ 32))
    (frameEnd kindSender body check) s

/-- R54. -/
def execClashTimerExpiry (s : State) : Host.Outcome State Fault Refusal :=
  eventIf (expired s.chan.clashEnd s.now)
    (fun s => clearOwn .numberClash none (s.onChan fun c => { c with clashEnd := none })) s

end Sys2Proof.Machine
end

