-- ==== Sys2Proof/Machine/Dispatch.lean ====
section
/-! DEFINITION. The dispatch: one arm per command, each one call of its meaning. -/

namespace Sys2Proof.Machine

def exec (i : Instr) (s : State) : Host.Outcome State Fault Refusal :=
  match i with
  | .powerUp straps memory => Sys2Proof.Machine.execPowerUp straps memory s
  | .hookMakeEdge p => Sys2Proof.Machine.execHookMakeEdge p s
  | .hookBreakEdge p => Sys2Proof.Machine.execHookBreakEdge p s
  | .offHook p => Sys2Proof.Machine.execOffHook p s
  | .onHook p => Sys2Proof.Machine.execOnHook p s
  | .pulseTrainEnd p => Sys2Proof.Machine.execPulseTrainEnd p s
  | .toneDigit p => Sys2Proof.Machine.execToneDigit p s
  | .digitToneEnd => Sys2Proof.Machine.execDigitToneEnd s
  | .toneSenderFree => Sys2Proof.Machine.execToneSenderFree s
  | .transfer p station => Sys2Proof.Machine.execTransfer p station s
  | .flashCodeRefused p d => Sys2Proof.Machine.execFlashCodeRefused p d s
  | .localService p => Sys2Proof.Machine.execLocalService p s
  | .retrieve p => Sys2Proof.Machine.execRetrieve p s
  | .hashHashEntry p => Sys2Proof.Machine.execHashHashEntry p s
  | .flashWindowExpiry p => Sys2Proof.Machine.execFlashWindowExpiry p s
  | .hashWindowExpiry p => Sys2Proof.Machine.execHashWindowExpiry p s
  | .announceTheFaultLog p => Sys2Proof.Machine.execAnnounceTheFaultLog p s
  | .surveyNow p => Sys2Proof.Machine.execSurveyNow p s
  | .serviceCodeRestart p => Sys2Proof.Machine.execServiceCodeRestart p s
  | .leaveLocal p => Sys2Proof.Machine.execLeaveLocal p s
  | .serviceCodeRefused p d => Sys2Proof.Machine.execServiceCodeRefused p d s
  | .localRestartDue p => Sys2Proof.Machine.execLocalRestartDue p s
  | .announcementEnd p => Sys2Proof.Machine.execAnnouncementEnd p s
  | .oneShotToneEnd p => Sys2Proof.Machine.execOneShotToneEnd p s
  | .stateTonePeriod p => Sys2Proof.Machine.execStateTonePeriod p s
  | .lockout p => Sys2Proof.Machine.execLockout p s
  | .ringVoltageOn => Sys2Proof.Machine.execRingVoltageOn s
  | .ringVoltageOff => Sys2Proof.Machine.execRingVoltageOff s
  | .burstStart => Sys2Proof.Machine.execBurstStart s
  | .burstEnd => Sys2Proof.Machine.execBurstEnd s
  | .quietTimerExpiry => Sys2Proof.Machine.execQuietTimerExpiry s
  | .patternPeriodEnd p => Sys2Proof.Machine.execPatternPeriodEnd p s
  | .ringOverload p => Sys2Proof.Machine.execRingOverload p s
  | .callerWindowExpiry => Sys2Proof.Machine.execCallerWindowExpiry s
  | .callerMessage m => Sys2Proof.Machine.execCallerMessage m s
  | .callerSendEnd p => Sys2Proof.Machine.execCallerSendEnd p s
  | .carrierPresent => Sys2Proof.Machine.execCarrierPresent s
  | .carrierAbsent => Sys2Proof.Machine.execCarrierAbsent s
  | .quietGapMet => Sys2Proof.Machine.execQuietGapMet s
  | .backoffUnit => Sys2Proof.Machine.execBackoffUnit s
  | .collision => Sys2Proof.Machine.execCollision s
  | .sendSuccess => Sys2Proof.Machine.execSendSuccess s
  | .jamTimerExpiry => Sys2Proof.Machine.execJamTimerExpiry s
  | .syncFound bits => Sys2Proof.Machine.execSyncFound s bits
  | .bodyLengthTooLong len => Sys2Proof.Machine.execBodyLengthTooLong len s
  | .frameEnd kindSender body check => Sys2Proof.Machine.execFrameEnd kindSender body check s
  | .clashTimerExpiry => Sys2Proof.Machine.execClashTimerExpiry s
  | .state => Sys2Proof.Machine.execState s
  | .notice => Sys2Proof.Machine.execNotice s
  | .call => Sys2Proof.Machine.execCall s
  | .fault => Sys2Proof.Machine.execFault s
  | .survey => Sys2Proof.Machine.execSurvey s
  | .peerSilenceExpiry station => Sys2Proof.Machine.execPeerSilenceExpiry station s
  | .peerRemovalExpiry station => Sys2Proof.Machine.execPeerRemovalExpiry station s
  | .announceTimerExpiry => Sys2Proof.Machine.execAnnounceTimerExpiry s
  | .lineSample v => Sys2Proof.Machine.execLineSample v s
  | .leadEnd => Sys2Proof.Machine.execLeadEnd s
  | .recallBreakEnd => Sys2Proof.Machine.execRecallBreakEnd s
  | .parkOfferExpiry => Sys2Proof.Machine.execParkOfferExpiry s
  | .recallingExpiry => Sys2Proof.Machine.execRecallingExpiry s
  | .incomingTransferExpiry => Sys2Proof.Machine.execIncomingTransferExpiry s
  | .tookTransferExpiry => Sys2Proof.Machine.execTookTransferExpiry s
  | .dayClockAdvance => Sys2Proof.Machine.execDayClockAdvance s
  | .commandTake => Sys2Proof.Machine.execCommandTake s
  | .takeDeadlineExpiry => Sys2Proof.Machine.execTakeDeadlineExpiry s
  | .statusReport link level margin => Sys2Proof.Machine.execStatusReport link level margin s
  | .linkUpFall => Sys2Proof.Machine.execLinkUpFall s
  | .requestWaitingRise code tag => Sys2Proof.Machine.execRequestWaitingRise code tag s
  | .settleTimerExpiry => Sys2Proof.Machine.execSettleTimerExpiry s
  | .trainingTimerExpiry => Sys2Proof.Machine.execTrainingTimerExpiry s
  | .retrainDelayExpiry => Sys2Proof.Machine.execRetrainDelayExpiry s
  | .retrainStampExpiry => Sys2Proof.Machine.execRetrainStampExpiry s
  | .braceWindowEnd => Sys2Proof.Machine.execBraceWindowEnd s
  | .stepWatchExpiry => Sys2Proof.Machine.execStepWatchExpiry s
  | .surveyDue => Sys2Proof.Machine.execSurveyDue s
  | .surveyLeadEnd => Sys2Proof.Machine.execSurveyLeadEnd s
  | .openSample v => Sys2Proof.Machine.execOpenSample v s
  | .loadSample v c => Sys2Proof.Machine.execLoadSample v c s
  | .earthSample tip ring => Sys2Proof.Machine.execEarthSample tip ring s
  | .noiseSample c => Sys2Proof.Machine.execNoiseSample c s
  | .localisationRunEnd => Sys2Proof.Machine.execLocalisationRunEnd s
  | .summary => Sys2Proof.Machine.execSummary s
  | .next => Sys2Proof.Machine.execNext s
  | .clear => Sys2Proof.Machine.execClear s
  | .figures => Sys2Proof.Machine.execFigures s
  | .surveyRequest => Sys2Proof.Machine.execSurveyRequest s
  | .restartRequest => Sys2Proof.Machine.execRestartRequest s
  | .unknownRequest => Sys2Proof.Machine.execUnknownRequest s
  | .restartDeadlineExpiry => Sys2Proof.Machine.execRestartDeadlineExpiry s
  | .lineLampFlash => Sys2Proof.Machine.execLineLampFlash s
  | .announcementBeepPeriod p => Sys2Proof.Machine.execAnnouncementBeepPeriod p s
  | .tonePairOnset p d => Sys2Proof.Machine.execTonePairOnset p d s
  | .tonePairCeased p => Sys2Proof.Machine.execTonePairCeased p s
  | .callerMessageFirstByte => Sys2Proof.Machine.execCallerMessageFirstByte s

end Sys2Proof.Machine
end

