-- ==== Sys2Proof/Machine/Due.lean ====
section
/-! DEFINITION. What the station does of itself when no command waits: the steps of its own that are due, in one fixed
order, and otherwise the passing of one millisecond (R93, R94; assumptions 1 and 3). -/

namespace Sys2Proof.Machine

/-- A command that is due when `c` holds. -/
def dueIf (c : Bool) (i : Instr) : List Instr := if c then [i] else []

/-- The steps of a port's own that are due. -/
def State.portDue (s : State) (p : PortId) : List Instr :=
  let q := s.port p
  dueIf (s.makeHeld p) (.offHook p) ++ dueIf (s.breakHeld p) (.onHook p)
  ++ dueIf (q.train.isSome && s.trainOver p) (.pulseTrainEnd p)
  ++ dueIf (q.st.hearsTones && q.pair.any (TonePair.ripe s.now)) (.toneDigit p)
  ++ dueIf (expired q.flashEnd s.now) (.flashWindowExpiry p)
  ++ dueIf (expired (q.hashWin.map HashWindow.expiry) s.now) (.hashWindowExpiry p)
  ++ dueIf (expired q.restartAt s.now) (.localRestartDue p)
  ++ dueIf (q.ann.any fun a => a.last && a.over s.now) (.announcementEnd p)
  ++ dueIf (q.ann.any fun a => !a.last && a.over s.now) (.announcementBeepPeriod p)
  ++ dueIf (q.tone.shotOver s.now) (.oneShotToneEnd p) ++ dueIf (q.tone.periodOver s.now) (.stateTonePeriod p)
  ++ dueIf ((decide (q.st = .loc) || decide (q.st = .refused)) && expired q.lockoutEnd s.now) (.lockout p)
  ++ dueIf (expired (s.ringOf p).mode.ends s.now) (.patternPeriodEnd p)
  ++ dueIf (expired (s.ringOf p).sendEnd s.now) (.callerSendEnd p)

/-- The steps of the tone sender's and the ring and cadence unit's own that are due. Ring voltage that a reset finds on
the pair is taken up at once (R24). -/
def State.ringDue (s : State) : List Instr :=
  dueIf (s.sender.sender.toneOver s.now) .digitToneEnd ++ dueIf (s.sender.sender.silenceOver s.now) .toneSenderFree
  ++ dueIf (decide (s.ring.burst = .quiet) && s.ring.voltage) .ringVoltageOn
  ++ dueIf (decide (s.ring.burst = .starting) && s.ring.persisted s.now) .burstStart
  ++ dueIf (decide (s.ring.burst = .ending) && s.ring.persisted s.now) .burstEnd
  ++ dueIf (expired s.ring.quietEnd s.now) .quietTimerExpiry
  ++ dueIf (expired s.ring.callerEnd s.now) .callerWindowExpiry

/-- The steps of the transceiver's own that are due: the wait, the end of a transmission, timers, and the processing of
the earliest delivered frame. -/
def State.channelDue (s : State) : List Instr :=
  dueIf (s.chan.quietFor 20 s.now && !s.chan.gapMet) .quietGapMet
  ++ dueIf (s.chan.quietFor 10 s.now && s.chan.gapMet && decide (0 < s.chan.count)) .backoffUnit
  ++ dueIf (decide (s.chan.tx = .sending) && s.chan.flight.any fun f => transmissionOver f s.chan.began s.now)
    .sendSuccess
  ++ dueIf (expired s.chan.jamEnd s.now) .jamTimerExpiry ++ dueIf (expired s.chan.clashEnd s.now) .clashTimerExpiry
  ++ dueIf (s.processable .state).isSome .state ++ dueIf (s.processable .notice).isSome .notice
  ++ dueIf (s.processable .call).isSome .call ++ dueIf (s.processable .fault).isSome .fault
  ++ dueIf (s.processable .survey).isSome .survey

/-- The ageing of one peer entry that is due. -/
def Peer.due (now : Nat) (e : Peer) : List Instr :=
  dueIf (e.present && expired e.silenceEnd now) (.peerSilenceExpiry e.number)
  ++ dueIf (!e.present && expired e.removalEnd now) (.peerRemovalExpiry e.number)

/-- The steps of the peer table, the loop and park unit and time keeping that are due. -/
def State.parkDue (s : State) : List Instr :=
  s.peers.flatMap (Peer.due s.now) ++ dueIf (expired s.announce.timerEnd s.now) .announceTimerExpiry
  ++ dueIf (s.loop.lead.any fun l => decide (l.ends ≤ s.now)) .leadEnd
  ++ dueIf (expired s.loop.recallState.breakEnd s.now) .recallBreakEnd
  ++ dueIf (s.loop.park.any fun k => decide (k.phase = .offered) && expired k.expiry s.now) .parkOfferExpiry
  ++ dueIf (s.loop.park.any fun k => decide (k.phase = .recalling) && expired k.expiry s.now) .recallingExpiry
  ++ dueIf (s.loop.incoming.any fun r => r.taking.isNone && decide (r.expiry ≤ s.now)) .incomingTransferExpiry
  ++ dueIf (s.loop.took.any fun t => decide (t.expiry ≤ s.now)) .tookTransferExpiry
  ++ dueIf (decide (s.time.secTaken < s.secs)) .dayClockAdvance

/-- The steps of the modem port and the holding controller that are due. -/
def State.holdDue (s : State) : List Instr :=
  dueIf (s.isModem && s.modem.slot.any fun c => decide (c.deadline ≤ s.now)) .takeDeadlineExpiry
  ++ dueIf (decide (s.hold.role = .quiet) && expired s.hold.settleEnd s.now) .settleTimerExpiry
  ++ dueIf (decide (s.hold.role = .training) && expired s.hold.trainingEnd s.now) .trainingTimerExpiry
  ++ dueIf (decide (s.hold.role = .recovering) && expired s.hold.retrainEnd s.now) .retrainDelayExpiry
  ++ dueIf (s.isModem && s.hold.history.head?.any fun h => decide (h + 3600 ≤ s.secs)) .retrainStampExpiry
  ++ dueIf (s.hold.window.any fun w => decide (w.ends ≤ s.now)) .braceWindowEnd
  ++ dueIf (s.hold.watch.any fun w => decide (w.expiry ≤ s.now)) .stepWatchExpiry

/-- The steps of the survey unit, localisation, the management responder and the lamps that are due. -/
def State.reportDue (s : State) : List Instr :=
  dueIf (decide (s.survey.stage = .idle) && expired s.survey.dueEnd s.now) .surveyDue
  ++ dueIf (decide (s.survey.stage = .notice) && s.survey.lead.any fun l => decide (l.ends ≤ s.now)) .surveyLeadEnd
  ++ dueIf (s.log.run.any fun r => decide (r.ends ≤ s.now)) .localisationRunEnd
  ++ dueIf (s.servable fun c => decide (c = 1)).isSome .summary
  ++ dueIf (s.servable fun c => decide (c = 2)).isSome .next
  ++ dueIf (s.servable fun c => decide (c = 3)).isSome .clear
  ++ dueIf (s.servable fun c => decide (c = 4)).isSome .figures
  ++ dueIf (s.servable fun c => decide (c = 5)).isSome .surveyRequest
  ++ dueIf (s.servable fun c => decide (c = 6)).isSome .restartRequest
  ++ dueIf (s.servable fun c => !requestCodes.contains c).isSome .unknownRequest
  ++ dueIf (expired s.resp.restartEnd s.now) .restartDeadlineExpiry
  ++ dueIf (s.lamps.line.over s.now) .lineLampFlash

/-- Every step of the station's own that is due, in the order in which `idle` takes them. -/
def State.due (s : State) : List Instr :=
  s.portDue .one ++ s.portDue .two ++ s.ringDue ++ s.channelDue ++ s.parkDue ++ s.holdDue ++ s.reportDue

/-- R93: uptime passes by one millisecond and holds at its greatest value. -/
def passTime (s : State) : State := s.onTime fun t => { t with uptime := satInc uptimeMax t.uptime }

/-- The station with no command waiting: the steps of its own that are due are put into the queue; with none due, one
millisecond passes. -/
def idle (s : State) : State :=
  match s.due with
  | [] => passTime s
  | i :: rest => s.onPending fun _ => i :: rest

end Sys2Proof.Machine
end

