-- ==== Sys2Proof/Safety.lean ====
section
/-! DEFINITION. What statements speak of: the parts of the state and frames over them, and the invariants that the manual
gives the station. -/

namespace Sys2Proof.Machine

/-! ### Frames -/

/-- The parts of the state that a frame names. `transmit` is what placing a STATE or a FAULT touches (the two slots, the
transmitter's wait, the jam timer), `channel` the rest of the transceiver; `asked` is the mark `snapshotAsked`, `log`
the rest of the fault log; `faultPresent` is the flag, `modem` the rest of the modem port; `fifo1` and `fifo2` are the
digit FIFOs, `port1` and `port2` the rest of the ports. -/
inductive Part where
  | port1 | fifo1 | port2 | fifo2 | sender | ring | line | loop | channel | transmit | announce | peers | time | modem
  | faultPresent | hold | survey | log | asked | resp | loader | lamps | pending
  deriving DecidableEq, Repr

/-- The transceiver without what placing a STATE or a FAULT touches. -/
def Channel.still (c : Channel) : Channel :=
  { c with faultSlot := none, stateSlot := none, tx := .idle, count := 0, gapMet := false, quietFrom := none,
           jamEnd := none, draws := 0 }

/-- What placing a STATE or a FAULT touches of the transceiver. -/
def Channel.moving (c : Channel) :
    Option Snapshot × Option StateFields × TxState × Nat × Bool × Option Nat × Option Nat × Nat :=
  (c.faultSlot, c.stateSlot, c.tx, c.count, c.gapMet, c.quietFrom, c.jamEnd, c.draws)

/-- A port without its digit FIFO. -/
def Port.rest (q : Port) : Port := { q with fifo := [] }

/-- The modem port without its FAULT_PRESENT flag. -/
def ModemPort.rest (m : ModemPort) : ModemPort := { m with faultPresent := false }

/-- The log without the model's own mark. -/
def FaultLog.rest (l : FaultLog) : FaultLog := { l with snapshotAsked := false }

/-- A part of two states is the same. -/
def Part.same (x : Part) (s t : State) : Prop :=
  match x with
  | .port1 => t.port1.rest = s.port1.rest
  | .fifo1 => t.port1.fifo = s.port1.fifo
  | .port2 => t.port2.rest = s.port2.rest
  | .fifo2 => t.port2.fifo = s.port2.fifo
  | .sender => t.sender = s.sender
  | .ring => t.ring = s.ring
  | .line => t.line = s.line
  | .loop => t.loop = s.loop
  | .channel => t.chan.still = s.chan.still
  | .transmit => t.chan.moving = s.chan.moving
  | .announce => t.announce = s.announce
  | .peers => t.peers = s.peers
  | .time => t.time = s.time
  | .modem => t.modem.rest = s.modem.rest
  | .faultPresent => t.modem.faultPresent = s.modem.faultPresent
  | .hold => t.hold = s.hold
  | .survey => t.survey = s.survey
  | .log => t.log.rest = s.log.rest
  | .asked => t.log.snapshotAsked = s.log.snapshotAsked
  | .resp => t.resp = s.resp
  | .loader => t.loader = s.loader
  | .lamps => t.lamps = s.lamps
  | .pending => t.pending = s.pending

/-- Only the named parts may differ. -/
def changesOnly (parts : List Part) (s t : State) : Prop := ∀ x : Part, x ∉ parts → x.same s t

/-- What the end of an event may change of itself (R14, R61, R62, R101, R156, R158, R178, R179). -/
def handedOn : List Part := [.fifo1, .fifo2, .sender, .transmit, .announce, .faultPresent, .asked, .lamps]

/-- The part of a port. -/
def portPart : PortId → Part
  | .one => .port1
  | .two => .port2

/-- The digit FIFO of a port. -/
def fifoPart : PortId → Part
  | .one => .fifo1
  | .two => .fifo2

/-- A digit FIFO at the end of an event that put nothing into it: as it was, or its oldest digit taken by the line-side
tone sender (R14). -/
def servedFrom (before after : List (Fin 10)) : Prop := after = before ∨ after = before.tail

/-- The frame of a command: beside the named parts, only what the end of an event hands on may differ, and of a digit
FIFO that is not named at most its oldest digit is gone. -/
def leaves (parts : List Part) (s t : State) : Prop :=
  changesOnly (handedOn ++ parts) s t
  ∧ (Part.fifo1 ∉ parts → servedFrom s.port1.fifo t.port1.fifo)
  ∧ (Part.fifo2 ∉ parts → servedFrom s.port2.fifo t.port2.fifo)

/-! ### The handset ports (01) -/

/-- R1, R2, R13, R15, R23: one port. -/
def Port.ok (q : Port) : Bool :=
  (decide (q.hook = .off) == (decide (q.st = .connected) || decide (q.st = .loc) || decide (q.st = .refused)
    || decide (q.st = .lockout)))
  && (q.fifo.isEmpty || decide (q.st = .connected)) && decide (q.fifo.length ≤ 16)
  && (q.lockoutEnd.isSome == (decide (q.st = .loc) || decide (q.st = .refused)))
  && (q.flashEnd.isNone || decide (q.st = .connected) || decide (q.st = .refused))
  && (q.ann.isNone || decide (q.st = .loc)) && decide (q.discards ≤ 255)

/-- R1: both ports, port 2 ABSENT exactly where its strap says so. -/
def PortsOk (s : State) : Prop :=
  s.port1.ok = true ∧ s.port2.ok = true ∧ s.port1.st ≠ .absent ∧ (s.port2.st = .absent ↔ s.loader.port2 = false)

/-- R14: a free line-side tone sender finds no port eligible. -/
def SenderOk (s : State) : Prop := s.sender.sender = .free → s.eligible .one = false ∧ s.eligible .two = false

/-! ### The ring and cadence unit (02) -/

/-- R10, R31, R32: the generator's mode for a ring cause. -/
def Cadence.suits (m : Cadence) : Option RingCause → Bool
  | some .exchange => decide (m = .mirror)
  | some .transfer => match m with
    | .pattern .transfer _ _ _ => true
    | _ => false
  | some .recall => match m with
    | .pattern .recall _ _ _ => true
    | _ => false
  | none => false

/-- R26, R27, R31, R33: one port's ringing. A port RINGING has a cause and the generator mode that suits it; any other
has the generator OFF, the gate closed and the cut mark clear; in MIRROR mode the gate follows the burst. -/
def ringingOk (q : Port) (r : PortRing) (u : RingUnit) : Prop :=
  (q.st = .ringing → r.mode.suits q.cause = true) ∧
  (q.st ≠ .ringing → r.mode = .off ∧ r.gateSince = none ∧ r.cut = false ∧ q.cause = none) ∧
  (r.mode = .mirror → (r.gateSince.isSome = true ↔ (u.burst = .burst ∨ u.burst = .ending))) ∧
  (q.st = .ringing ∧ q.cause = some .exchange → u.call = .inProgress)

/-- Both ports' ringing, and R36: an open caller window has been opened for the present call. -/
def RingOk (s : State) : Prop :=
  ringingOk s.port1 s.ring.ring1 s.ring ∧ ringingOk s.port2 s.ring.ring2 s.ring ∧
  (s.ring.callerEnd.isSome = true → s.ring.windowOpened = true)

/-! ### The line monitor (05) -/

/-- R74, R76: the line monitor's runs. That the good run stays at 40 is assumption 33. -/
structure LineOk (s : State) : Prop where
  /-- R74: at most 3 samples of use, and 3 exactly in IN_USE. -/
  use : s.line.useRun ≤ 3 ∧ (s.line.st = .inUse ↔ s.line.useRun = 3)
  /-- R74: the 40th low sample makes the line DEAD. -/
  low : s.line.lowRun ≤ 40 ∧ (s.line.st ≠ .dead → s.line.lowRun < 40)
  /-- R74, R75: a drop is counted only in IN_USE. -/
  drop : s.line.drop ≤ 40 ∧ (s.line.st ≠ .inUse → s.line.drop = 0)
  /-- R76: the good run ends at 40, and in DEAD it is the use run. -/
  good : s.line.goodRun ≤ 40 ∧ (s.line.st = .dead → s.line.goodRun = s.line.useRun)

/-! ### The loop and park unit (05) -/

/-- R77, R82, R84, R87, R91: the loop, the recall, the park record and a take. -/
structure LoopOk (s : State) : Prop where
  /-- R77: CLOSED only while some own port is CONNECTED, a register recall is in progress, or a lead runs. -/
  closed : s.loop.loop = .closed → s.someConnected = true ∨ s.loop.recallState ≠ .none ∨ s.loop.lead.isSome = true
  /-- R77: in HOLD exactly while a park record exists. -/
  hold : s.loop.loop = .hold ↔ s.loop.park.isSome = true
  /-- R82: a recall in progress finds the loop CLOSED. -/
  recallClosed : s.loop.recallState ≠ .none → s.loop.loop = .closed
  /-- R82: recall LEAD is announced by the running lead. -/
  lead : s.loop.recallState = .lead → ∃ l, s.loop.lead = some l ∧ LeadAct.recall ∈ l.acts
  /-- R87: the taking port is CONNECTED. -/
  taking : ∀ r p, s.loop.incoming = some r → r.taking = some p → (s.port p).st = .connected
  /-- R84: park ids are 1–15. -/
  parkId : 1 ≤ s.loop.lastParkId ∧ s.loop.lastParkId ≤ 15
  /-- R91: a park record has a phase expiry exactly outside RELEASING. -/
  expiry : ∀ k, s.loop.park = some k → (k.phase = .releasing ↔ k.expiry = none)

/-! ### The survey (08) -/

/-- R138: the law of the test load and the measuring stages. -/
structure SurveyOk (s : State) : Prop where
  load : s.survey.loadOn = true ↔ s.survey.stage = .load
  ports : s.survey.stage.measuring = true → s.portsQuiet = true
  loop : s.survey.stage.measuring = true → s.loop.loop = .opened
  call : s.survey.stage.measuring = true → s.ring.call ≠ .inProgress

/-! ### The transceiver and the peer table (03, 04) -/

/-- The frame in an occupied receive slot comes from another station (R53, R54). -/
def RxSlot.fromPeer (own : Nat) : RxSlot → Prop
  | .filling => True
  | .delivered f => 1 ≤ f.sender ∧ f.sender ≤ 8 ∧ f.sender ≠ own
  | .processing f => 1 ≤ f.sender ∧ f.sender ≤ 8 ∧ f.sender ≠ own

/-- R43 to R47, R51, R54: the transceiver. -/
structure ChannelOk (s : State) : Prop where
  idle : s.chan.tx = .idle ↔ (s.chan.pending = false ∧ s.chan.flight = none)
  sending : s.chan.tx = .sending ↔ s.chan.flight.isSome = true
  window : s.chan.window = 8 ∨ s.chan.window = 16 ∨ s.chan.window = 32 ∨ s.chan.window = 64
  count : s.chan.tx = .waiting → s.chan.count < s.chan.window
  slots : s.chan.slots.length ≤ 2
  filling : (s.chan.slots.filter fun x => decide (x = .filling)).length = if s.chan.rx = .frame then 1 else 0
  processing : (s.chan.slots.filter RxSlot.isProcessing).length ≤ 1
  senders : ∀ x ∈ s.chan.slots, x.fromPeer s.own

/-- R63, R64, R69, R70: the peer table, in ascending station number. -/
structure PeersOk (s : State) : Prop where
  sorted : s.peers.Pairwise fun a b => a.number < b.number
  numbers : ∀ e ∈ s.peers, 1 ≤ e.number ∧ e.number ≤ 8 ∧ e.number ≠ s.own
  ageing : ∀ e ∈ s.peers, (e.silenceEnd.isSome = e.present) ∧ (e.removalEnd.isSome = !e.present)

/-! ### The modem port and the holding controller (07) -/

/-- How many commands of the queue satisfy `is`. -/
def queued (is : Command → Bool) (s : State) : Nat := (s.modem.queue.filter is).length

/-- R102, R103: the queue. -/
structure QueueOk (s : State) : Prop where
  length : s.modem.queue.length ≤ 4
  train : queued Command.isTrain s ≤ 1
  brace : queued Command.isBrace s ≤ 1
  drop : queued (fun c => decide (c = .drop)) s ≤ 1
  slot : s.modem.slot = none → s.modem.queue = []

/-- R101, R110, R117, R119, R120, R125, R126: the holding controller. -/
structure HoldOk (s : State) : Prop where
  /-- R101, R110: ABSENT exactly without the modem strap. -/
  absent : s.hold.role = .absent ↔ s.isModem = false
  /-- R110: STANDBY only while some PRESENT peer shows TRAINING or HOLDING. -/
  standby : s.hold.role = .standby → s.anyHolder = true
  /-- R120: BRACED is raised exactly while a brace window is open, and only in HOLDING. -/
  braced : s.modem.braced = s.hold.window.isSome
  window : s.hold.window.isSome = true → s.hold.role = .holding
  /-- R119: the window never reaches more than 30 s past its start. -/
  reach : ∀ w, s.hold.window = some w → w.ends ≤ w.start + 30000
  /-- R117: at most B stamps. -/
  history : s.hold.history.length ≤ s.profile.retrainBudget
  /-- R125: the step watch runs only in HOLDING. -/
  watch : s.hold.watch.isSome = true → s.hold.role = .holding
  /-- R126: a step, and the watch after it, leave one place of the budget free. -/
  stepped : (s.hold.watch.isSome = true ∨ (s.hold.role = .training ∧ s.hold.stepLevel.isSome = true)) →
    s.hold.history.length < s.profile.retrainBudget

/-! ### The day clock (06) -/

/-- R95 to R98: a set day clock holds a time of the calendar. -/
def ClockOk (s : State) : Prop :=
  ∀ c, s.time.clock = some c → validTime c.month c.day c.hour c.minute = true ∧ c.second ≤ 59

/-! ### The fault log and what follows it (09, 10) -/

/-- R151 to R153, R155: the records of the log. -/
structure LogOk (l : FaultLog) : Prop where
  /-- R152: at most 32 records. -/
  length : l.records.length ≤ 32
  /-- R152: no two ACTIVE records share class, origin and qualifier. -/
  keys : l.records.Pairwise fun a b =>
    a.st = .active → b.st = .active → ¬ (a.cls = b.cls ∧ a.origin = b.origin ∧ a.qual = b.qual)
  /-- R153: no two records share a sequence number. -/
  seqs : l.records.Pairwise fun a b => a.seq ≠ b.seq
  /-- R153: the counter lies in 1–65535 and is held by no record. -/
  counter : 1 ≤ l.seqCounter ∧ l.seqCounter ≤ 65535
  free : ∀ r ∈ l.records, r.seq ≠ l.seqCounter
  /-- R151: occurrence counts lie in 1–255. -/
  counts : ∀ r ∈ l.records, 1 ≤ r.count ∧ r.count ≤ 255
  /-- R155: the overflow tally lies in 0–65535. -/
  overflow : l.overflow ≤ 65535

/-- R178: the LINE lamp shows the holding role. -/
def LineLamp.shows : LineLamp → Role → Bool
  | .steady, r => decide (r = .holding)
  | .flashing _ _, r => r.flashes
  | .off, r => decide (r ≠ .holding) && !r.flashes

/-- R101, R178, R179: the lamps and the FAULT_PRESENT flag. -/
structure LampsOk (s : State) : Prop where
  fault : s.lamps.fault = s.log.anyActive
  present : s.modem.faultPresent = (s.isModem && s.log.anyActive)
  line : s.lamps.line.shows s.hold.role = true
  /-- The model's own mark is clear between events (assumption 31). -/
  asked : s.log.snapshotAsked = false

/-- Between events: the lamps and flags show the state, and the line-side tone sender waits for no digit. Every step
keeps both. Where it holds, an event that changes nothing of what is handed on hands nothing on. -/
structure Settled (s : State) : Prop where
  lamps : LampsOk s
  sender : SenderOk s

/-! ### Frames in their formats (12) -/

/-- R189: an offer or a took-transfer that the byte can carry. -/
def pairFits (p : Option (Nat × Nat)) : Bool := p.all fun x => decide (1 ≤ x.1 ∧ x.1 ≤ 8 ∧ 1 ≤ x.2 ∧ x.2 ≤ 15)

/-- R189: a carried clock in its bytes. -/
def CarriedClock.fits (c : CarriedClock) : Bool :=
  decide (1 ≤ c.quality ∧ c.quality ≤ 255 ∧ c.month ≤ 255 ∧ c.day ≤ 255 ∧ c.hour ≤ 255 ∧ c.minute ≤ 255)

/-- R189: the fields of a STATE in their ranges. -/
def StateFields.fits (f : StateFields) : Bool :=
  decide (f.count ≤ 255) && pairFits f.offer && pairFits f.took && f.clock.all CarriedClock.fits
  && decide (f.ownFaults ≤ 32)

/-- R190: an entry in its bytes. -/
def FaultEntry.fits (e : FaultEntry) : Bool :=
  decide (e.cls ≤ 255) && e.qual.all (fun q => decide (1 ≤ q ∧ q ≤ 255)) && decide (e.count ≤ 255)
  && e.value.all fun v => decide (v < 65535)

/-- R145, R191: figures in their ranges. -/
def Figures.fits (f : Figures) : Bool :=
  decide (f.number ≤ 255 ∧ f.measured ≤ 4294967295 ∧ f.vOpen ≤ 4095 ∧ f.grade ≤ 15 ∧ f.offset ≤ 2000)
  && f.feed.all (fun r => decide (r ≤ 9999)) && f.imbalance.all fun i => decide (i ≤ 1000)

/-- R189 to R191: a frame whose fields lie in their ranges. -/
def Frame.fits : Frame → Bool
  | .state f => f.fits
  | .notice _ d => decide (1 ≤ d ∧ d ≤ 50)
  | .call _ station parkId => decide (1 ≤ station ∧ station ≤ 8 ∧ 1 ≤ parkId ∧ parkId ≤ 15)
  | .fault f => decide (f.entries.length ≤ 6) && f.entries.all FaultEntry.fits
  | .survey f => f.fits

/-! ### The code rows of the digits (01) -/

/-- R6, R15 to R22: the row that acts on a digit recognised in a flash window, in LOCAL, or as a "#" of an open "##"
window; none for a digit that is no code. -/
def State.codeRow (s : State) (p : PortId) (d : Digit) : Option Instr :=
  match (s.port p).st, (s.port p).flashEnd.isSome, d with
  | .connected, true, .num n =>
    some (if n.val = 0 then .retrieve p else if n.val = 9 then .localService p
      else if n.val = s.own then .flashCodeRefused p d else .transfer p n.val)
  | .connected, true, .star => some (.flashCodeRefused p d)
  | .connected, true, .hash => some (.hashHashEntry p)
  | .connected, false, .hash => if (s.port p).hashWin.isSome then some (.hashHashEntry p) else none
  | .refused, true, _ => some (if d = .num 0 then .retrieve p else .flashCodeRefused p d)
  | .loc, _, .num n =>
    some (if n.val = 0 then .leaveLocal p else if n.val = 1 then .announceTheFaultLog p
      else if n.val = 2 then .surveyNow p else if n.val = 3 then .serviceCodeRestart p else .serviceCodeRefused p d)
  | .loc, _, _ => some (.serviceCodeRefused p d)
  | _, _, _ => none

/-! ### Restart -/

/-- A station restart comes about: the end of a code 3 confirmation second, the expiry of the RESTART deadline, or the
take of the RESTART answer (R21, R176, R184). -/
def restartsBy (c : Instr) (cause : RestartCause) (s : State) : Prop :=
  (∃ p d, c = .localRestartDue p ∧ cause = .loc ∧ (s.port p).restartAt = some d ∧ d ≤ s.now) ∨
  (∃ d, c = .restartDeadlineExpiry ∧ cause = .remote ∧ s.resp.restartEnd = some d ∧ d ≤ s.now) ∨
  (∃ slot o r, c = .commandTake ∧ cause = .remote ∧ s.isModem = true ∧ s.modem.slot = some slot ∧
    slot.cmd = .respond r ∧ s.resp.outstanding = some o ∧ o.code = 6)

end Sys2Proof.Machine
end

