-- ==== Sys2Proof/Certificates/Slice0/Obligations.lean ====
section
/-! DEFINITION. The statements for the provers. Each speaks of what `exec` or `step` answers; `leaves` names the parts of
the state that may differ beside what the end of an event hands on, and `Settled` is the invariant under which an event
hands on nothing that has not changed. -/

open Sys2Proof Sys2Proof.Machine

/-! ### The step, reset, power-up and restart -/

/-- The command at the front of the queue, the model's own (assumption 2), is run on the state with the queue's rest.
-/
def Obligations.StepRunsFrontCommand : Prop :=
  ∀ (c : Instr) (rest : List Instr) (s : State), s.pending = c :: rest → step s = exec c { s with pending := rest }

/-- The model's choice (assumptions 1 and 3): with no command waiting the station's own due steps are queued, and with
none due one millisecond passes, uptime holding at the last millisecond of 4,294,967,295 s. -/
def Obligations.EmptyQueueStep : Prop :=
  ∀ s : State, s.pending = [] →
    (s.due = [] → step s = .next { s with time := { s.time with uptime := min 4294967295999 (s.time.uptime + 1) } })
      ∧
    (s.due ≠ [] → step s = .next { s with pending := s.due })

/-- Every command answers a next state in every state: no fault, no refusal. -/
def Obligations.EveryCommandCompletes : Prop :=
  ∀ (c : Instr) (s : State), ∃ t, exec c s = .next t

/-- R180, R182, R186: the straps, the profile and its source are kept by every command but power-up. That no command
but power-up moves uptime, which only the passing of time moves, and that no command touches the queue, are the
model's choices (assumptions 1 and 2). -/
def Obligations.KeptUntilPowerUp : Prop :=
  ∀ (c : Instr) (s t : State), exec c s = .next t →
    t.pending = s.pending ∧
    ((∀ straps memory, c ≠ .powerUp straps memory) →
      t.time.uptime = s.time.uptime ∧ t.loader.station = s.loader.station ∧ t.loader.modem = s.loader.modem ∧
      t.loader.port2 = s.loader.port2 ∧ t.loader.profile = s.loader.profile ∧ t.loader.source = s.loader.source)

/-- The values the manual gives after the start event (R183, and each block's own rules), at the straps and profile of
assumption 4 and with the pins at rest (assumption 5). -/
def Obligations.ResetValues : Prop :=
  (∀ p, (State.reset.port p).st = .idle ∧ (State.reset.port p).hook = .on ∧ (State.reset.port p).cause = none ∧
    (State.reset.port p).makeStart = none ∧ (State.reset.port p).train = none ∧
      (State.reset.port p).flashEnd = none ∧
    (State.reset.port p).digitsSeen = 0 ∧ (State.reset.port p).hashWin = none ∧ (State.reset.port p).mute = false ∧
    (State.reset.port p).fifo = [] ∧ (State.reset.port p).discards = 0 ∧ (State.reset.port p).lockoutEnd = none ∧
    (State.reset.port p).tone = .none ∧ (State.reset.port p).ann = none) ∧
  State.reset.sender.lastServed = .two ∧
  State.reset.ring.burst = .quiet ∧ State.reset.ring.call = .none ∧ State.reset.ring.burstNo = 0 ∧
  State.reset.ring.quietEnd = none ∧ State.reset.ring.callerEnd = none ∧
    State.reset.ring.windowOpened = false ∧ State.reset.ring.record = none ∧
  State.reset.ring.checkFails = 0 ∧ State.reset.ring.overwrites = 0 ∧
  (∀ p, (State.reset.ringOf p).mode = .off ∧ (State.reset.ringOf p).gateSince = none ∧
    (State.reset.ringOf p).demandTransfer = false ∧ (State.reset.ringOf p).demandRecall = false ∧
    (State.reset.ringOf p).sent = false) ∧
  State.reset.line = { st := .idle, useRun := 0, lowRun := 0, goodRun := 0, drop := 0 } ∧
  State.reset.loop = { loop := .opened, lead := none, recallState := .none, park := none, lastParkId := 15,
                       incoming := none, took := none } ∧
  State.reset.chan.window = 8 ∧ State.reset.chan.rx = .hunt ∧ State.reset.chan.slots = [] ∧
  State.reset.chan.noticeSlot = none ∧ State.reset.chan.callSlot = none ∧ State.reset.chan.faultSlot = none ∧
  State.reset.chan.stateSlot = some State.reset.stateFields ∧ State.reset.chan.surveySlot = none ∧
  State.reset.chan.flight = none ∧ State.reset.chan.tx = .waiting ∧ State.reset.chan.clashEnd = none ∧
  State.reset.chan.sent = 0 ∧ State.reset.chan.collisions = 0 ∧ State.reset.chan.checkFails = 0 ∧
  State.reset.chan.formatErrs = 0 ∧ State.reset.chan.overruns = 0 ∧ State.reset.chan.received = 0 ∧
  State.reset.announce = { timerEnd := some (1000 * State.reset.profile.announceInterval), count := 1 } ∧
  State.reset.peers = [] ∧ State.reset.time.uptime = 0 ∧ State.reset.time.clock = none ∧
  State.reset.modem.slot = none ∧ State.reset.modem.queue = [] ∧ State.reset.modem.link = .down ∧
  State.reset.modem.level = none ∧ State.reset.modem.request = none ∧ State.reset.modem.faultPresent = false ∧
  State.reset.modem.braced = false ∧
  State.reset.hold.role = .quiet ∧ State.reset.hold.level = State.reset.profile.startLevel ∧
  State.reset.hold.s16 = none ∧ State.reset.hold.window = none ∧ State.reset.hold.history = [] ∧
  State.reset.hold.settleEnd = some (15000 + 2000 * State.reset.loader.station) ∧
  State.reset.hold.nightMark = false ∧
  State.reset.survey.stage = .idle ∧ State.reset.survey.dueEnd = some 120000 ∧ State.reset.survey.deferrals = 0 ∧
  State.reset.survey.aborts = 0 ∧ State.reset.survey.number = 0 ∧ State.reset.survey.figures = none ∧
  State.reset.survey.collection = [] ∧ State.reset.survey.baseline = none ∧ State.reset.survey.loadOn = false ∧
  State.reset.log.records = [] ∧ State.reset.log.seqCounter = 1 ∧ State.reset.log.overflow = 0 ∧
  State.reset.log.run = none ∧ State.reset.log.pendingRun = none ∧ State.reset.log.reference = none ∧
  State.reset.resp.overwrites = 0 ∧ State.reset.resp.outstanding = none ∧ State.reset.resp.pendingMark = none ∧
  State.reset.resp.restartEnd = none ∧
  State.reset.loader.cause = .power ∧ State.reset.loader.count = 0 ∧
  State.reset.lamps.line = .off ∧ State.reset.lamps.fault = false

/-- R1, R14, R24, R25, R30, R31, R36, R50, R58, R59, R62, R73, R74, R77, R93, R95, R101, R110, R128, R150, R178 to
R183, R192, R193: power-up, with the profile read byte by byte. The levels at the pins and the carrier are kept, what
is read of them starts afresh, the model's own queue is kept (assumption 2), and values that no rule gives are those
of State.reset (assumptions 5, 8, 9 and 23); the wait's draw is a free value, numbered by the model's own field draws
(assumption 6), and its quiet counts from now where no carrier stands (assumptions 21 and 46). -/
def Obligations.PowerUpStartEvent : Prop :=
  ∀ (straps : Straps) (memory : List Byte) (s : State), ∃ t, exec (.powerUp straps memory) s = .next t ∧
    let good := decide (24 ≤ memory.length ∧ ((memory.take 24).map BitVec.toNat).sum % 256 = 0)
    let byte := fun i => (memory.getD i 0).toNat
    let two := fun i => 256 * byte i + byte (i + 1)
    let policy := fun n => ([.always, .daytime, .delayed, .never] : List RingPolicy).getD n .always
    let maxLevel := max 1 (min 8 (byte 18))
    let profile : Profile :=
      if good then
        { policy1 := policy (byte 0), policy2 := policy (byte 1), delayedBursts := max 1 (min 4 (byte 2)),
          dayStart := min 23 (byte 3), dayEnd := min 23 (byte 4), privacy := if byte 5 = 1 then .priv else .join,
          announceInterval := max 5 (min 30 (byte 6)), surveyInterval := max 15 (min 240 (byte 7)),
          expectedOffset := min 2000 (two 8), jointThreshold := max 50 (min 1000 (two 10)),
          loopLimit := max 1000 (min 6000 (two 12)), earthThreshold := max 50 (min 500 (two 14)),
          noiseThreshold := max 4 (min 15 (byte 16)), startLevel := min (max 1 (min 8 (byte 17))) maxLevel,
          maxLevel := maxLevel, retrainBudget := max 2 (min 6 (byte 19)) }
      else
        { policy1 := .always, policy2 := .always, delayedBursts := 2, dayStart := 6, dayEnd := 22,
          privacy := .join, announceInterval := 10, surveyInterval := 60, expectedOffset := 0,
          jointThreshold := 120, loopLimit := 2500, earthThreshold := 150, noiseThreshold := 10,
          startLevel := 4, maxLevel := 8, retrainBudget := 6 }
    t.loader = { station := straps.numberPins.toNat + 1, modem := straps.modem, port2 := straps.port2,
                 profile := profile, source := if good then .read else .default, cause := .power, count := 0 } ∧
    (∀ p, p = .one ∨ straps.port2 = true → t.port p = { st := .idle, cause := none, hook := .on,
                                                        level := (s.port p).level,
                                                        makeStart := if (s.port p).level = .make then
                                                          some 0 else none, breakStart := none,
                                                        train := none, flashEnd := none, digitsSeen := 0,
                                                        hashWin := none, mute := false, fifo := [],
                                                        discards := 0, lockoutEnd := none, tone := .none,
                                                        ann := none, pair := none, restartAt := none }) ∧
    (straps.port2 = false → t.port2 = { st := .absent, cause := none, hook := .on, level := s.port2.level,
                                        makeStart := none, breakStart := none, train := none,
                                        flashEnd := none, digitsSeen := 0, hashWin := none, mute := false,
                                        fifo := [], discards := 0, lockoutEnd := none, tone := .none,
                                        ann := none, pair := none, restartAt := none }) ∧
    t.sender = { sender := .free, lastServed := .two } ∧
    (∀ p, t.ringOf p = { admitted := false, demandTransfer := false, demandRecall := false, mode := .off,
                         gateSince := none, cut := false, sendEnd := none, sent := false }) ∧
    t.ring.burst = .quiet ∧ t.ring.burstSince = 0 ∧ t.ring.voltage = s.ring.voltage ∧ t.ring.call = .none ∧
    t.ring.burstNo = 0 ∧ t.ring.quietEnd = none ∧ t.ring.callerEnd = none ∧
      t.ring.windowOpened = false ∧ t.ring.receiving = false ∧
    t.ring.record = none ∧ t.ring.checkFails = 0 ∧ t.ring.overwrites = 0 ∧
    t.line = { st := .idle, useRun := 0, lowRun := 0, goodRun := 0, drop := 0 } ∧
    t.loop = { loop := .opened, lead := none, recallState := .none, park := none, lastParkId := 15,
               incoming := none, took := none } ∧
    t.chan = { noticeSlot := none, callSlot := none, faultSlot := if good then none else
                 some t.log.snapshot, stateSlot := some t.stateFields, surveySlot := none, flight := none,
               began := 0, tx := .waiting, window := 8, count := Config.backoffDraw s.chan.draws % 8,
               gapMet := false, quietFrom := if s.chan.carrier then none else some 0, jamEnd := some 30000,
               carrier := s.chan.carrier, rx := .hunt, slots := [], clashEnd := none, sent := 0,
               collisions := 0, checkFails := 0, formatErrs := 0, overruns := 0, received := 0,
               draws := s.chan.draws + 1 } ∧
    t.announce = { timerEnd := some (1000 * profile.announceInterval), count := 1 } ∧
    t.peers = [] ∧ t.time = { uptime := 0, clock := none, secTaken := 0 } ∧
    t.modem = { slot := none, queue := [], link := .down, level := none,
                faultPresent := straps.modem && !good, braced := false, linkUp := s.modem.linkUp,
                requestWaiting := s.modem.requestWaiting, request := none } ∧
    t.hold = { role := if straps.modem then .quiet else .absent, level := profile.startLevel, upSince := none,
               s16 := none, window := none, history := [], settleEnd := if straps.modem then
                 some (15000 + 2000 * (straps.numberPins.toNat + 1)) else none, trainingEnd := none,
               underWay := false, retrainEnd := none, nightMark := false, stepLevel := none,
               stepEarlier := none, watch := none } ∧
    t.survey = { stage := .idle, dueEnd := some 120000, deferrals := 0, lead := none, sums := {
                   openV := 0, loadV := 0, loadI := 0, earthTip := 0, earthRing := 0, noise := 0 },
                 taken := 0, sampleAt := 0, loadOn := false, aborts := 0, number := 0, figures := none,
                 collection := [], baseline := none } ∧
    t.log = { records := if good then [] else [{ seq := 1, cls := .profileDefault,
                                                 origin := straps.numberPins.toNat + 1, qual := none,
                                                 source := .own, st := .active, reported := false, first := 0,
                                                 last := 0, stamp := none, count := 1, value := none }],
              seqCounter := if good then 1 else 2, overflow := 0, run := none, pendingRun := none,
              reference := none, snapshotAsked := false } ∧
    t.resp = { overwrites := 0, outstanding := none, pendingMark := none, restartEnd := none } ∧
    t.lamps = { line := .off, fault := !good } ∧
    t.pending = s.pending

/-- R1, R14, R25, R30, R31, R36, R38 to R40, R50, R54, R58, R59, R62, R73, R74, R77, R93, R95, R117, R122, R127, R128,
R140, R153 to R155, R167, R168, R184, R185: the station restart. A field that no rule names is kept (assumptions 9, 23
and 38), and so are the levels at the pins (assumption 5). The restart's STATE begins a fresh wait: its draw is a free
value, numbered by the model's own field draws (assumption 6), and the quiet counts from now (assumption 21) where no
other signal stands, an own transmission's carrier ending at once (assumption 46). -/
def Obligations.StationRestart : Prop :=
  ∀ (c : Instr) (cause : RestartCause) (s : State), restartsBy c cause s →
    ∃ t, exec c s = .next t ∧
    t.loader = { s.loader with cause := cause, count := min 255 (s.loader.count + 1) } ∧
    (∀ p, (s.port p).st ≠ .absent → t.port p = { st := .idle, cause := none, hook := .on,
                                                 level := (s.port p).level,
                                                 makeStart := if (s.port p).level = .make then some s.now else
                                                   none, breakStart := none, train := none,
                                                 flashEnd := none, digitsSeen := 0, hashWin := none,
                                                 mute := false, fifo := [],
                                                 discards := (s.port p).discards, lockoutEnd := none,
                                                 tone := .none, ann := none, pair := none, restartAt := none }) ∧
    (∀ p, (s.port p).st = .absent → t.port p = s.port p) ∧
    t.sender = { s.sender with sender := .free } ∧
    (∀ p, t.ringOf p = { admitted := false, demandTransfer := false, demandRecall := false, mode := .off,
                         gateSince := none, cut := false, sendEnd := none, sent := false }) ∧
    t.ring.burst = .quiet ∧ t.ring.burstSince = s.now ∧ t.ring.voltage = s.ring.voltage ∧ t.ring.call = .none ∧
    t.ring.burstNo = 0 ∧ t.ring.quietEnd = none ∧ t.ring.callerEnd = none ∧
      t.ring.windowOpened = false ∧ t.ring.receiving = false ∧
    t.ring.record = none ∧ t.ring.checkFails = s.ring.checkFails ∧ t.ring.overwrites = s.ring.overwrites ∧
    t.line = { st := .idle, useRun := 0, lowRun := 0, goodRun := 0, drop := 0 } ∧
    t.loop = { loop := .opened, lead := none, recallState := .none, park := none,
               lastParkId := s.loop.lastParkId, incoming := none, took := none } ∧
    t.chan = { s.chan with noticeSlot := none, callSlot := none, faultSlot := t.chan.faultSlot,
                           stateSlot := some t.stateFields, surveySlot := none, flight := none,
                           tx := .waiting, window := 8, count := Config.backoffDraw s.chan.draws % 8,
                           gapMet := false, quietFrom := if s.chan.carrier then none else some s.now,
                           jamEnd := some (s.now + 30000), rx := .hunt, slots := [], draws := s.chan.draws + 1 } ∧
    (t.chan.faultSlot = none ∨ t.chan.faultSlot = some t.log.snapshot) ∧
    (t.log.snapshot ≠ s.log.snapshot → t.chan.faultSlot = some t.log.snapshot) ∧
    t.announce = { timerEnd := some (s.now + 1000 * s.profile.announceInterval), count := 1 } ∧
    t.peers = [] ∧ t.time = s.time ∧
    (s.isModem = true →
      t.modem = { s.modem with slot := if s.hold.role = .training ∨ s.hold.role = .holding then some {
                                 cmd := .drop, waiting := true, deadline := s.now + 2000 } else none,
                               queue := [], request := none, braced := false, faultPresent := t.log.anyActive } ∧
      t.hold = { s.hold with role := .quiet, settleEnd := some (s.now + 15000 + 2000 * s.own),
                             trainingEnd := none, underWay := false, upSince := none, s16 := none,
                             window := none, retrainEnd := none, watch := none } ∧
      t.lamps.line = .off) ∧
    (s.isModem = false → t.modem = { s.modem with faultPresent := false } ∧ t.hold = s.hold) ∧
    t.survey.stage = .idle ∧ t.survey.dueEnd = some (s.now + 120000) ∧ t.survey.deferrals = 0 ∧
    t.survey.aborts = (if s.survey.stage = .idle then s.survey.aborts else min 255 (s.survey.aborts + 1)) ∧
    (s.survey.stage ≠ .idle ∨ s.survey.loadOn = false → t.survey.loadOn = false) ∧
    (s.survey.stage ≠ .idle ∨ s.survey.lead = none → t.survey.lead = none) ∧
    t.survey.number = s.survey.number ∧ t.survey.figures = s.survey.figures ∧
    t.survey.baseline = s.survey.baseline ∧ t.survey.collection = s.survey.collection ∧
    t.log.records.map (fun r : Record => (r.seq, r.cls, r.origin, r.qual, r.source, r.first, r.stamp,
      r.count, r.value)) = s.log.records.map (fun r : Record => (r.seq, r.cls, r.origin, r.qual, r.source,
      r.first, r.stamp, r.count, r.value)) ∧
    t.log.records = s.log.records.map (fun x =>
      let q := if c = .commandTake ∧ x.st = .active ∧ x.cls = .modemSilent ∧ x.origin = s.own ∧ x.qual = none then
        { x with st := .cleared, reported := false, last := s.secs } else x
      let r := if c = .commandTake ∧ s.resp.pendingMark = some (q.seq, q.st) then { q with reported := true } else q
      if r.st = .active ∧ r.origin = s.own ∧ ((r.cls = .handsetLockout ∧ ((s.port1.st = .lockout ∧
        r.qual = some 1) ∨ (s.port2.st = .lockout ∧ r.qual = some 2))) ∨ (r.cls = .retrainRest ∧
        r.qual = none ∧ s.isModem = true ∧ s.hold.role = .resting)) then { r with
            st := .cleared, reported := false, last := s.secs } else r) ∧
    (c = .commandTake → t.log.hasActive .modemSilent s.own none = false) ∧
    (s.isModem = true → s.hold.role = .resting → t.log.hasActive .retrainRest s.own none = false) ∧
    (∀ p, (s.port p).st = .lockout → t.log.hasActive .handsetLockout s.own (some (portNum p)) = false) ∧
    t.log.seqCounter = s.log.seqCounter ∧ t.log.overflow = s.log.overflow ∧ t.log.reference = s.log.reference ∧
    t.log.run = none ∧ t.log.pendingRun = none ∧
    t.lamps.fault = t.log.anyActive ∧
    t.resp = { overwrites := s.resp.overwrites, outstanding := none, pendingMark := none, restartEnd := none } ∧
    t.pending = s.pending

/-! ### Handset ports (01) -/

/-- R2, R3, R4, R15: the edges of the hook input. A break of 700 ms or more is an on-hook first (assumption 10). A
break edge exactly 300 ms after the make goes on with the train (assumption 42). -/
def Obligations.HookEdges : Prop :=
  (∀ (p : PortId) (s : State), Settled s → (s.port p).st ≠ .absent → (s.port p).hook = .on →
     (s.port p).level = .brk →
     exec (.hookMakeEdge p) s =
       .next (s.onPort p fun q => { q with level := .make, makeStart := some s.now })) ∧
  (∀ (p : PortId) (s : State), Settled s → (s.port p).st ≠ .absent → (s.port p).hook = .on →
     (s.port p).level = .make → (s.port p).makeStart.any (fun m => decide (m + 50 ≤ s.now)) = false →
     exec (.hookBreakEdge p) s =
       .next (s.onPort p fun q => { q with level := .brk, makeStart := none })) ∧
  (∀ (p : PortId) (s : State), Settled s → (s.port p).st ≠ .absent → (s.port p).hook = .off →
     (s.port p).level = .make →
     exec (.hookBreakEdge p) s =
       .next (s.onPort p fun q => { q with level := .brk, breakStart := some s.now })) ∧
  (∀ (p : PortId) (b : Nat) (s : State), (s.port p).breakStart = some b → Settled s →
     (s.port p).st ≠ .absent → (s.port p).hook = .off → (s.port p).level = .brk → s.now < b + 20 →
     exec (.hookMakeEdge p) s =
       .next (s.onPort p fun q => { q with level := .make, breakStart := none })) ∧
  (∀ (p : PortId) (b : Nat) (s : State), (s.port p).breakStart = some b → Settled s →
     (s.port p).st ≠ .absent → (s.port p).hook = .off → (s.port p).level = .brk → b + 20 ≤ s.now → s.now < b + 100 →
     exec (.hookMakeEdge p) s =
       .next (s.onPort p fun q => { q with level := .make, breakStart := none, makeStart := some s.now,
                                           train := some (min 255 ((q.train.getD 0) + 1)) })) ∧
  (∀ (p : PortId) (b : Nat) (s : State), (s.port p).breakStart = some b → Settled s →
     (s.port p).st ≠ .absent → (s.port p).hook = .off → (s.port p).level = .brk → b + 100 ≤ s.now →
     s.now < b + 700 → (s.port p).st = .connected →
     exec (.hookMakeEdge p) s =
       .next (s.onPort p fun q => { q with level := .make, breakStart := none, makeStart := some s.now,
                                           train := none, flashEnd := some (s.now + 3000), digitsSeen := 0,
                                           hashWin := none, mute := true })) ∧
  (∀ (p : PortId) (b : Nat) (s : State), (s.port p).breakStart = some b → Settled s →
     (s.port p).st ≠ .absent → (s.port p).hook = .off → (s.port p).level = .brk → b + 100 ≤ s.now →
     s.now < b + 700 → (s.port p).st = .refused →
     exec (.hookMakeEdge p) s =
       .next (s.onPort p fun q => { q with level := .make, breakStart := none, makeStart := some s.now,
                                           train := none, flashEnd := some (s.now + 3000), digitsSeen := 0,
                                           hashWin := none })) ∧
  (∀ (p : PortId) (b : Nat) (s : State), (s.port p).breakStart = some b → Settled s →
     (s.port p).st ≠ .absent → (s.port p).hook = .off → (s.port p).level = .brk → b + 100 ≤ s.now →
     s.now < b + 700 → (s.port p).st = .loc ∨ (s.port p).st = .lockout →
     exec (.hookMakeEdge p) s =
       .next (s.onPort p fun q => { q with level := .make, breakStart := none, makeStart := some s.now,
                                           train := none }))

/-- R2, R8, R9, R27, R78, R138: an off-hook declared in IDLE, by the cases of R8 in their order. A bridging port
begins no lead, also while the loop is still OPEN (assumption 55). -/
def Obligations.OffHookDecision : Prop :=
  ∀ (p : PortId) (m : Nat) (s : State), (s.port p).makeStart = some m → (s.port p).st = .idle →
    (s.port p).hook = .on → (s.port p).level = .make → m + 50 ≤ s.now →
    ∃ t, exec (.offHook p) s = .next t ∧
    (t.port p).st = (if s.line.st = .dead then .loc else if s.loop.loop = .hold then .refused else
      if (s.port (otherPort p)).st = .connected then .connected else if ((s.line.st = .inUse ∧
      s.loop.loop = .opened) ∨ s.peerInUse = true) ∧ s.profile.privacy = .priv then .refused else .connected) ∧
    t.loop.loop = s.loop.loop ∧
    ((t.port p).st = .connected → (t.port p).lockoutEnd = none ∧ (t.port p).flashEnd = none ∧
      (t.port p).digitsSeen = 0 ∧ (t.port p).hashWin = none ∧ (t.port p).mute = false ∧ (t.port p).fifo = []) ∧
    ((t.port p).st ≠ .connected → (t.port p).lockoutEnd = some (s.now + 60000) ∧ (t.port p).fifo = []) ∧
    (s.line.st = .dead → (t.port p).tone = .announcing ∧
      (t.port p).ann = some (if (((s.log.records.filter fun r => decide (r.st = .active)).take 8).map fun r =>
      (r.seq, r.cls.num)) = [] then { list := [], place := 0, beeps := 0, phase := .allClear,
                                      ends := s.now + 2000 } else {
          list := (((s.log.records.filter fun r => decide (r.st = .active)).take 8).map fun r => (r.seq,
          r.cls.num)), place := 0, beeps := ((((s.log.records.filter fun r => decide (r.st = .active)).take 8).map
            fun r => (r.seq, r.cls.num)).getD 0 (0, 0)).2, phase := .beep, ends := s.now + 150 })) ∧
    ((t.port p).st = .connected ∧ (s.port (otherPort p)).st ≠ .connected ∧ s.loop.loop = .opened →
      t.loop.lead = some { acts := ((s.loop.lead.map Lead.acts).getD []) ++ [.loopClose], placed := s.now,
                           stale := s.chan.noticeInFlight, sent := none } ∧
      t.chan.noticeSlot = some (mergeNotice s.chan.noticeSlot .loopClose 3)) ∧
    ((t.port p).st ≠ .connected ∨ (s.port (otherPort p)).st = .connected ∨ s.loop.loop ≠ .opened →
      t.loop.lead = s.loop.lead ∧ t.chan.noticeSlot = s.chan.noticeSlot) ∧
    (t.port p).hook = .off ∧ (t.ringOf p).mode = .off ∧ t.survey.stage.measuring = false ∧
    ((t.port p).st = .connected ∧ s.ring.call = .inProgress → t.ring.call = .answered) ∧
    (s.ring.call ≠ .inProgress → (t.port (otherPort p)).rest = (s.port (otherPort p)).rest ∧
      t.ring.call = s.ring.call) ∧
    leaves [.port1, .fifo1, .port2, .fifo2, .ring, .survey, .loop, .channel, .hold, .modem, .resp] s t

/-- R8, R9, R33, R40, R87, R90: an off-hook declared in RINGING, by its cause. A bridging port begins no lead, also
while the loop is still OPEN (assumption 55). -/
def Obligations.OffHookAnswers : Prop :=
  (∀ (p : PortId) (m : Nat) (s : State), (s.port p).makeStart = some m → (s.port p).st = .ringing →
     (s.port p).cause = some .exchange → (s.port p).hook = .on → (s.port p).level = .make → m + 50 ≤ s.now →
     ∃ t, exec (.offHook p) s = .next t ∧
     (t.port p).st = (if s.line.st = .dead then .loc else if s.loop.loop = .hold then .refused else
       if (s.port (otherPort p)).st = .connected then .connected else if ((s.line.st = .inUse ∧
       s.loop.loop = .opened) ∨ s.peerInUse = true) ∧ s.profile.privacy = .priv then .refused else .connected) ∧
     t.loop.loop = s.loop.loop ∧
     ((t.port p).st = .connected ∧ (s.port (otherPort p)).st ≠ .connected ∧ s.loop.loop = .opened →
       t.loop.lead = some { acts := ((s.loop.lead.map Lead.acts).getD []) ++ [.loopClose], placed := s.now,
                            stale := s.chan.noticeInFlight, sent := none } ∧
       t.chan.noticeSlot = some (mergeNotice s.chan.noticeSlot .loopClose 3)) ∧
     ((t.port p).st ≠ .connected ∨ (s.port (otherPort p)).st = .connected ∨ s.loop.loop ≠ .opened →
       t.loop.lead = s.loop.lead ∧ t.chan.noticeSlot = s.chan.noticeSlot) ∧
     (t.port p).hook = .off ∧ (t.port p).cause = none ∧ (t.ringOf p).mode = .off ∧
       (t.ringOf p).gateSince = none ∧ (t.ringOf p).cut = false ∧ (t.ringOf p).sendEnd = none ∧
     t.ringsFor (otherPort p) .exchange = false ∧
     ((t.port p).st = .connected ∧ s.ring.call = .inProgress → t.ring.call = .answered) ∧
     leaves [.port1, .fifo1, .port2, .fifo2, .ring, .survey, .loop, .channel, .hold, .modem, .resp] s t) ∧
  (∀ (p : PortId) (m : Nat) (s : State), (s.port p).makeStart = some m → (s.port p).st = .ringing →
     (s.port p).cause = some .transfer → (s.port p).hook = .on → (s.port p).level = .make → m + 50 ≤ s.now →
     ∃ t, exec (.offHook p) s = .next t ∧
     (t.port p).st = .connected ∧ (t.port p).hook = .off ∧ (t.port p).cause = none ∧
       (t.ringOf p).mode = .off ∧ (t.ringOf p).gateSince = none ∧
     t.loop.incoming = s.loop.incoming.map (fun r => { r with taking := some p }) ∧ t.loop.loop = s.loop.loop ∧
     t.loop.lead = some { acts := ((s.loop.lead.map Lead.acts).getD []) ++ [.handover], placed := s.now,
                          stale := s.chan.noticeInFlight, sent := none } ∧
       t.chan.noticeSlot = some (mergeNotice s.chan.noticeSlot .handover 10) ∧
     (t.ringOf .one).demandTransfer = false ∧ (t.ringOf .two).demandTransfer = false ∧
       t.ringsFor (otherPort p) .transfer = false ∧
     leaves [.port1, .fifo1, .port2, .fifo2, .ring, .survey, .loop, .channel, .hold, .modem, .resp] s t) ∧
  (∀ (p : PortId) (m : Nat) (s : State), (s.port p).makeStart = some m → (s.port p).st = .ringing →
     (s.port p).cause = some .recall → (s.port p).hook = .on → (s.port p).level = .make → m + 50 ≤ s.now →
     ∃ t, exec (.offHook p) s = .next t ∧
     (t.port p).st = .connected ∧ (t.port p).hook = .off ∧ (t.port p).cause = none ∧
       (t.ringOf p).mode = .off ∧ (t.ringOf p).gateSince = none ∧
     t.loop.park = none ∧ t.loop.loop = (if s.loop.loop = .hold then .closed else s.loop.loop) ∧
       (t.ringOf p).demandRecall = false ∧
     t.loop.lead = s.loop.lead ∧
     leaves [.port1, .fifo1, .port2, .fifo2, .ring, .survey, .loop] s t)

/-- R3, R11, R13, R30, R78, R87: a break of 700 ms, by port state. A port left IDLE with a demand standing starts
ringing at once, RECALL first. A port that leaves the other one CONNECTED with the loop still OPEN begins the close
lead anew (assumption 55). -/
def Obligations.OnHook : Prop :=
  (∀ (p : PortId) (b : Nat) (s : State), (s.port p).breakStart = some b → (s.port p).st = .connected →
     (s.port p).hook = .off → b + 700 ≤ s.now →
     ∃ t, exec (.onHook p) s = .next t ∧
     (t.port p).hook = .on ∧ (t.port p).train = none ∧ (t.port p).flashEnd = none ∧
       (t.port p).hashWin = none ∧ (t.port p).mute = false ∧ (t.port p).tone = .none ∧
       (t.port p).ann = none ∧ (t.port p).lockoutEnd = none ∧
       (t.port p).st = (if (s.ringOf p).demandRecall ∨ (s.ringOf p).demandTransfer then .ringing else
       .idle) ∧ (t.port p).cause = (if (s.ringOf p).demandRecall then some .recall else
       if (s.ringOf p).demandTransfer then some .transfer else none) ∧
     (t.port p).fifo = [] ∧ (match t.sender.sender with | .tone r _ _ => decide (r ≠ p) | _ => true) = true ∧
     (t.loop.incoming.any fun r => decide (r.taking = some p)) = false ∧
     ((s.port (otherPort p)).st ≠ .connected ∧ s.loop.loop = .closed ∧ s.loop.park = none ∧
       s.loop.recallState = .none → t.loop.lead = some { acts := ((s.loop.lead.map Lead.acts).getD []) ++
                                                           [.loopOpen], placed := s.now,
                                                         stale := s.chan.noticeInFlight,
                                                         sent := none } ∧
       t.chan.noticeSlot = some (mergeNotice s.chan.noticeSlot .loopOpen 3)) ∧
     ((s.port (otherPort p)).st = .connected ∧ s.loop.loop = .opened → t.loop.lead = some {
           acts := ((s.loop.lead.map Lead.acts).getD []) ++ [.loopClose], placed := s.now,
           stale := s.chan.noticeInFlight, sent := none } ∧
       t.chan.noticeSlot = some (mergeNotice s.chan.noticeSlot .loopClose 3)) ∧
     (if (s.port (otherPort p)).st = .connected then s.loop.loop ≠ .opened →
       t.loop.lead = s.loop.lead ∧ t.chan.noticeSlot = s.chan.noticeSlot else
       s.loop.loop ≠ .closed ∨ s.loop.recallState ≠ .none → t.loop.lead = s.loop.lead ∧
       t.chan.noticeSlot = s.chan.noticeSlot) ∧
     t.loop.loop = s.loop.loop ∧
     leaves [portPart p, fifoPart p, .ring, .survey, .loop, .channel, .hold, .modem, .resp] s t) ∧
  (∀ (p : PortId) (b : Nat) (s : State), (s.port p).breakStart = some b → (s.port p).st = .loc ∨
     (s.port p).st = .refused → (s.port p).hook = .off → b + 700 ≤ s.now →
     ∃ t, exec (.onHook p) s = .next t ∧
     (t.port p).hook = .on ∧ (t.port p).train = none ∧ (t.port p).flashEnd = none ∧
       (t.port p).hashWin = none ∧ (t.port p).mute = false ∧ (t.port p).tone = .none ∧
       (t.port p).ann = none ∧ (t.port p).lockoutEnd = none ∧
       (t.port p).st = (if (s.ringOf p).demandRecall ∨ (s.ringOf p).demandTransfer then .ringing else
       .idle) ∧ (t.port p).cause = (if (s.ringOf p).demandRecall then some .recall else
       if (s.ringOf p).demandTransfer then some .transfer else none) ∧
     leaves [portPart p, .ring, .survey] s t) ∧
  (∀ (p : PortId) (b : Nat) (s : State), (s.port p).breakStart = some b → (s.port p).st = .lockout →
     (s.port p).hook = .off → b + 700 ≤ s.now →
     ∃ t, exec (.onHook p) s = .next t ∧
     (t.port p).hook = .on ∧ (t.port p).train = none ∧ (t.port p).flashEnd = none ∧
       (t.port p).hashWin = none ∧ (t.port p).mute = false ∧ (t.port p).tone = .none ∧
       (t.port p).ann = none ∧ (t.port p).lockoutEnd = none ∧
       (t.port p).st = (if (s.ringOf p).demandRecall ∨ (s.ringOf p).demandTransfer then .ringing else
       .idle) ∧ (t.port p).cause = (if (s.ringOf p).demandRecall then some .recall else
       if (s.ringOf p).demandTransfer then some .transfer else none) ∧
     t.log.hasActive .handsetLockout s.own (some (portNum p)) = false ∧
       t.log.rest = (clearOwn .handsetLockout (some (portNum p)) s).log.rest ∧
     leaves [portPart p, .ring, .survey, .log] s t)

/-- R4, R6, R13, R14, R19, R23: the end of a pulse train. A code acts as its row (assumption 11); a train ends only at
a make 300 ms old with no break running (assumption 42); the ## watch counts no digit in REFUSED (assumption 14). -/
def Obligations.PulseTrainEnd : Prop :=
  (∀ (p : PortId) (n m : Nat) (s : State), (s.port p).train = some n → (s.port p).makeStart = some m →
     Settled s → (s.port p).st = .connected → (s.port p).breakStart = none → m + 300 ≤ s.now →
     (s.port p).flashEnd = none → (s.port p).hashWin.any HashWindow.afterFlash = false → n ≤ 10 →
     (s.port p).fifo.length < 16 → s.sender.sender ≠ .free →
     exec (.pulseTrainEnd p) s =
       .next (s.onPort p fun q => { q with train := none, digitsSeen := min 2 (q.digitsSeen + 1),
                                           hashWin := none, fifo := q.fifo ++ [Fin.ofNat 10 n] })) ∧
  (∀ (p : PortId) (n m : Nat) (s : State), (s.port p).train = some n → (s.port p).makeStart = some m →
     Settled s → (s.port p).st = .connected → (s.port p).breakStart = none → m + 300 ≤ s.now →
     (s.port p).flashEnd = none → (s.port p).hashWin.any HashWindow.afterFlash = false → n ≤ 10 →
     s.sender.sender = .free → s.loop.loop = .closed → s.loop.recallState = .none →
     s.eligible (otherPort p) = false →
     exec (.pulseTrainEnd p) s =
       .next ((s.onPort p fun q => { q with train := none, digitsSeen := min 2 (q.digitsSeen + 1),
                                            hashWin := none, fifo := [] }).onSender fun _ => {
             sender := .tone p (Fin.ofNat 10 n) (s.now + 80), lastServed := p })) ∧
  (∀ (p : PortId) (n m : Nat) (s : State), (s.port p).train = some n → (s.port p).makeStart = some m →
     Settled s → (s.port p).st = .connected → (s.port p).breakStart = none → m + 300 ≤ s.now →
     (s.port p).flashEnd = none → (s.port p).hashWin.any HashWindow.afterFlash = false → n ≤ 10 →
     (s.port p).fifo.length < 16 → s.sender.sender = .free → s.loop.loop ≠ .closed ∨ s.loop.recallState ≠ .none →
     exec (.pulseTrainEnd p) s =
       .next (s.onPort p fun q => { q with train := none, digitsSeen := min 2 (q.digitsSeen + 1),
                                           hashWin := none, fifo := q.fifo ++ [Fin.ofNat 10 n] })) ∧
  (∀ (p : PortId) (n m : Nat) (s : State), (s.port p).train = some n → (s.port p).makeStart = some m →
     Settled s → (s.port p).st = .connected → (s.port p).breakStart = none → m + 300 ≤ s.now →
     (s.port p).flashEnd = none → (s.port p).hashWin.any HashWindow.afterFlash = false → n ≤ 10 →
     (s.port p).fifo.length = 16 →
     exec (.pulseTrainEnd p) s =
       .next (s.onPort p fun q => { q with train := none, digitsSeen := min 2 (q.digitsSeen + 1),
                                           hashWin := none, tone := .oneShot .beep (s.now + 200) })) ∧
  (∀ (p : PortId) (n m : Nat) (s : State), (s.port p).train = some n → (s.port p).makeStart = some m →
     Settled s → (s.port p).st = .connected → (s.port p).breakStart = none → m + 300 ≤ s.now → 10 < n →
     exec (.pulseTrainEnd p) s =
       .next (s.onPort p fun q => { q with train := none, discards := min 255 (q.discards + 1),
                                           tone := .oneShot .error (s.now + 2000) })) ∧
  (∀ (p : PortId) (n m : Nat) (s : State), (s.port p).train = some n → (s.port p).makeStart = some m →
     Settled s → (s.port p).st ≠ .connected → (s.port p).breakStart = none → m + 300 ≤ s.now → 10 < n →
     exec (.pulseTrainEnd p) s =
       .next (s.onPort p fun q => { q with train := none, discards := min 255 (q.discards + 1) })) ∧
  (∀ (p : PortId) (n m : Nat) (s : State), (s.port p).train = some n → (s.port p).makeStart = some m →
     Settled s → (s.port p).st = .connected → (s.port p).breakStart = none → m + 300 ≤ s.now →
     (s.port p).flashEnd = none → (s.port p).hashWin.any HashWindow.afterFlash = true → n ≤ 10 →
     exec (.pulseTrainEnd p) s =
       .next (s.onPort p fun q => { q with train := none, digitsSeen := min 2 (q.digitsSeen + 1),
                                           hashWin := none, mute := false, tone := .oneShot .error (s.now + 2000) })) ∧
  (∀ (p : PortId) (n m : Nat) (s : State), (s.port p).train = some n → (s.port p).makeStart = some m →
     Settled s → (s.port p).st = .refused → (s.port p).flashEnd = none → (s.port p).breakStart = none →
     m + 300 ≤ s.now → n ≤ 10 →
     exec (.pulseTrainEnd p) s =
       .next (s.onPort p fun q => { q with train := none, lockoutEnd := some (s.now + 60000) })) ∧
  (∀ (p : PortId) (n m : Nat) (s : State), (s.port p).train = some n → (s.port p).makeStart = some m →
     Settled s → (s.port p).st = .lockout → (s.port p).breakStart = none → m + 300 ≤ s.now → n ≤ 10 →
     exec (.pulseTrainEnd p) s =
       .next (s.onPort p fun q => { q with train := none })) ∧
  (∀ (p : PortId) (n m : Nat) (c : Instr) (s : State), (s.port p).train = some n →
     (s.port p).makeStart = some m → s.codeRow p (.num (Fin.ofNat 10 n)) = some c → (s.port p).breakStart = none →
     m + 300 ≤ s.now → n ≤ 10 →
     exec (.pulseTrainEnd p) s = exec c
       (s.onPort p fun q => { q with train := none }))

/-- R5, R6, R19, R23: tone pairs, and the digits recognised. A code acts as its row (assumption 11); an onset with a
pair still held replaces it (assumption 52); a pair is forgotten where the detector does not run (assumption 32), and
at its end where it is not recognised yet, be it of 40 ms (assumption 47); a first # after a flash whose window has
expired opens a window as one at entry (assumption 13); the ## watch counts no digit in REFUSED (assumption 14). -/
def Obligations.ToneDigits : Prop :=
  (∀ (p : PortId) (d : Digit) (s : State), Settled s → (s.port p).st = .connected ∨ (s.port p).st = .loc ∨
     (s.port p).st = .refused →
     exec (.tonePairOnset p d) s =
       .next (s.onPort p fun q => { q with pair := some { digit := d, onset := s.now, recognised := false } })) ∧
  (∀ (p : PortId) (k : TonePair) (s : State), (s.port p).pair = some k → Settled s →
     exec (.tonePairCeased p) s =
       .next (s.onPort p fun q => { q with pair := none })) ∧
  (∀ (p : PortId) (d : Digit) (s : State), (s.port p).st ≠ .connected → (s.port p).st ≠ .loc →
     (s.port p).st ≠ .refused →
     exec (.tonePairOnset p d) s =
       .next (s)) ∧
  (∀ (p : PortId) (k : TonePair) (s : State), (s.port p).pair = some k → k.recognised = true ∨
     s.now < k.onset + 40 →
     exec (.toneDigit p) s =
       .next (s)) ∧
  (∀ (p : PortId) (s : State), (s.port p).pair = none →
     exec (.toneDigit p) s =
       .next (s)) ∧
  (∀ (p : PortId) (s : State), (s.port p).st ≠ .connected → (s.port p).st ≠ .loc → (s.port p).st ≠ .refused →
     exec (.toneDigit p) s =
       .next (s)) ∧
  (∀ (p : PortId) (k : TonePair) (s : State), (s.port p).pair = some k → Settled s →
     (s.port p).st = .connected → k.recognised = false → k.onset + 40 ≤ s.now → (s.port p).flashEnd = none →
     (s.port p).hashWin = none → k.digit ≠ .hash ∨ (s.port p).digitsSeen ≠ 0 →
     exec (.toneDigit p) s =
       .next (s.onPort p fun q => { q with pair := some { k with recognised := true },
                                           digitsSeen := min 2 (q.digitsSeen + 1) })) ∧
  (∀ (p : PortId) (k : TonePair) (s : State), (s.port p).pair = some k → Settled s →
     (s.port p).st = .connected → k.recognised = false → k.onset + 40 ≤ s.now → (s.port p).flashEnd = none →
     (s.port p).hashWin = none → k.digit = .hash → (s.port p).digitsSeen = 0 →
     exec (.toneDigit p) s =
       .next (s.onPort p fun q => { q with pair := some { k with recognised := true }, digitsSeen := 1,
                                           hashWin := some { expiry := s.now + 2000, afterFlash := false } })) ∧
  (∀ (p : PortId) (k : TonePair) (s : State), (s.port p).pair = some k → Settled s →
     (s.port p).st = .refused → k.recognised = false → k.onset + 40 ≤ s.now → (s.port p).flashEnd = none →
     exec (.toneDigit p) s =
       .next (s.onPort p fun q => { q with pair := some { k with recognised := true },
                                           lockoutEnd := some (s.now + 60000) })) ∧
  (∀ (p : PortId) (k : TonePair) (w : HashWindow) (s : State), (s.port p).pair = some k →
     (s.port p).hashWin = some w → Settled s → (s.port p).st = .connected → k.recognised = false →
     k.onset + 40 ≤ s.now → (s.port p).flashEnd = none → w.afterFlash = true → k.digit ≠ .hash →
     exec (.toneDigit p) s =
       .next (s.onPort p fun q => { q with pair := some { k with recognised := true },
                                           digitsSeen := min 2 (q.digitsSeen + 1), hashWin := none,
                                           mute := false, tone := .oneShot .error (s.now + 2000) })) ∧
  (∀ (p : PortId) (k : TonePair) (w : HashWindow) (s : State), (s.port p).pair = some k →
     (s.port p).hashWin = some w → Settled s → (s.port p).st = .connected → k.recognised = false →
     k.onset + 40 ≤ s.now → (s.port p).flashEnd = none → w.afterFlash = false → k.digit ≠ .hash →
     exec (.toneDigit p) s =
       .next (s.onPort p fun q => { q with pair := some { k with recognised := true },
                                           digitsSeen := min 2 (q.digitsSeen + 1), hashWin := none })) ∧
  (∀ (p : PortId) (k : TonePair) (c : Instr) (s : State), (s.port p).pair = some k →
     s.codeRow p k.digit = some c → k.recognised = false → k.onset + 40 ≤ s.now →
     exec (.toneDigit p) s = exec c
       (s.onPort p fun q => { q with pair := some { k with recognised := true } }))

/-- R14: the line-side tone sender: 80 ms of tone, 80 ms of silence, then the oldest digit of the port served next. -/
def Obligations.ToneSender : Prop :=
  (∀ (q : PortId) (d : Fin 10) (e : Nat) (s : State), s.sender.sender = .tone q d e → Settled s → e ≤ s.now →
     exec .digitToneEnd s =
       .next (s.onSender fun u => { u with sender := .silence (s.now + 80) })) ∧
  (∀ (e : Nat) (s : State), s.sender.sender = .silence e → Settled s → e ≤ s.now →
     s.eligible .one = false → s.eligible .two = false →
     exec .toneSenderFree s =
       .next (s.onSender fun u => { u with sender := .free })) ∧
  (∀ (p : PortId) (e : Nat) (d : Fin 10) (ds : List (Fin 10)) (s : State), s.sender.sender = .silence e →
     (s.port p).fifo = d :: ds → Settled s → e ≤ s.now → s.eligible p = true → s.sender.lastServed ≠ p ∨
     s.eligible (otherPort p) = false →
     exec .toneSenderFree s =
       .next ((s.onPort p fun q => { q with fifo := ds }).onSender fun _ => {
             sender := .tone p d (s.now + 80), lastServed := p }))

/-- R16, R84: a flash code 1 to 8 that is not the own number. -/
def Obligations.TransferOffer : Prop :=
  (∀ (p : PortId) (d : Nat) (s : State), (s.port p).st = .connected → (s.port p).flashEnd.isSome = true → 1 ≤ d →
     d ≤ 8 → d ≠ s.own → s.peerPresent d = false ∨ (s.port (otherPort p)).st = .connected ∨
     s.loop.loop ≠ .closed ∨ s.loop.recallState ≠ .none →
     ∃ t, exec (.transfer p d) s = .next t ∧
     leaves [portPart p] s t ∧
     (t.port p).rest = ({ s.port p with flashEnd := none, digitsSeen := min 2 ((s.port p).digitsSeen + 1),
                                        mute := false, tone := .oneShot .error (s.now + 2000) } : Port).rest) ∧
  (∀ (p : PortId) (d : Nat) (s : State), (s.port p).st = .connected → (s.port p).flashEnd.isSome = true → 1 ≤ d →
     d ≤ 8 → d ≠ s.own → s.peerPresent d = true → (s.port (otherPort p)).st ≠ .connected →
     s.loop.loop = .closed → s.loop.recallState = .none →
     ∃ t, exec (.transfer p d) s = .next t ∧
     let id := if 15 ≤ s.loop.lastParkId then 1 else s.loop.lastParkId + 1
     (t.port p).st = .refused ∧ (t.port p).hook = (s.port p).hook ∧
       (t.port p).tone = .oneShot .confirm (s.now + 1000) ∧ (t.port p).lockoutEnd = some (s.now + 60000) ∧
       (t.port p).fifo = [] ∧ (t.port p).flashEnd = none ∧
     t.loop.loop = .hold ∧ t.loop.lastParkId = id ∧
     t.loop.park = some { target := d, parkId := id, port := p, start := s.now, phase := .offered,
                          expiry := some (s.now + 45000) } ∧
     t.chan.callSlot = some (.offer, d, id) ∧ t.loop.incoming = none ∧ t.loop.took = s.loop.took ∧
       t.loop.lead = s.loop.lead ∧
     (match t.sender.sender with | .tone r _ _ => decide (r ≠ p) | _ => true) = true ∧
     (s.loop.incoming ≠ none → ∀ q, (t.ringOf q).demandTransfer = false ∧ t.ringsFor q .transfer = false) ∧
     (∀ q, (t.ringOf q).demandRecall = (s.ringOf q).demandRecall) ∧
     (s.loop.incoming = none → (t.port (otherPort p)).rest = (s.port (otherPort p)).rest ∧
       t.ring = s.ring ∧ t.survey = s.survey) ∧
     leaves [.port1, .port2, fifoPart p, .ring, .survey, .loop, .channel] s t)

/-- R15: the own number and star in CONNECTED, any digit but 0 in REFUSED. The ## watch counts no digit in REFUSED
(assumption 14). -/
def Obligations.FlashCodeRefusals : Prop :=
  (∀ (p : PortId) (d : Digit) (s : State), (s.port p).st = .connected → (s.port p).flashEnd.isSome = true →
     1 ≤ s.own → s.own ≤ 8 → (match d with | .num n => decide (n.val = s.own) | .star => true | .hash => false) =
     true →
     ∃ t, exec (.flashCodeRefused p d) s = .next t ∧
     leaves [portPart p] s t ∧
     (t.port p).rest = ({ s.port p with flashEnd := none, digitsSeen := min 2 ((s.port p).digitsSeen + 1),
                                        mute := false, tone := .oneShot .error (s.now + 2000) } : Port).rest) ∧
  (∀ (p : PortId) (d : Digit) (s : State), (s.port p).st = .refused → (s.port p).flashEnd.isSome = true →
     d ≠ .num 0 →
     ∃ t, exec (.flashCodeRefused p d) s = .next t ∧
     leaves [portPart p] s t ∧
     (t.port p).rest = ({ s.port p with flashEnd := none, lockoutEnd := some (s.now + 60000),
                                        tone := .oneShot .error (s.now + 2000) } : Port).rest)

/-- R17, R19: the flash code 9 and "##". A first # after a flash whose window has expired opens a window as one at
entry (assumption 13); a state tone begins with its on period (assumption 26). A port that leaves the other one
CONNECTED with the loop still OPEN begins the close lead anew (assumption 55). -/
def Obligations.EnterLocal : Prop :=
  (∀ (p : PortId) (s : State), (s.port p).st = .connected → (s.port p).flashEnd.isSome = true →
     ∃ t, exec (.localService p) s = .next t ∧
     (t.port p).st = .loc ∧ (t.port p).mute = false ∧ (t.port p).fifo = [] ∧ (t.port p).flashEnd = none ∧
       (t.port p).lockoutEnd = some (s.now + 60000) ∧ (t.port p).hook = (s.port p).hook ∧
     ((s.port p).tone = .none → (t.port p).tone = .stateTone true (s.now + 100)) ∧
     (match t.sender.sender with | .tone r _ _ => decide (r ≠ p) | _ => true) = true ∧ t.loop.loop = s.loop.loop ∧
     ((s.port (otherPort p)).st ≠ .connected ∧ s.loop.loop = .closed ∧ s.loop.park = none ∧
       s.loop.recallState = .none → t.loop.lead = some { acts := ((s.loop.lead.map Lead.acts).getD []) ++
                                                           [.loopOpen], placed := s.now,
                                                         stale := s.chan.noticeInFlight,
                                                         sent := none } ∧
       t.chan.noticeSlot = some (mergeNotice s.chan.noticeSlot .loopOpen 3)) ∧
     ((s.port (otherPort p)).st = .connected ∧ s.loop.loop = .opened → t.loop.lead = some {
           acts := ((s.loop.lead.map Lead.acts).getD []) ++ [.loopClose], placed := s.now,
           stale := s.chan.noticeInFlight, sent := none } ∧
       t.chan.noticeSlot = some (mergeNotice s.chan.noticeSlot .loopClose 3)) ∧
     (if (s.port (otherPort p)).st = .connected then s.loop.loop ≠ .opened →
       t.loop.lead = s.loop.lead ∧ t.chan.noticeSlot = s.chan.noticeSlot else
       s.loop.loop ≠ .closed ∨ s.loop.recallState ≠ .none → t.loop.lead = s.loop.lead ∧
       t.chan.noticeSlot = s.chan.noticeSlot) ∧
     leaves [portPart p, fifoPart p, .loop, .channel, .hold, .modem, .resp] s t) ∧
  (∀ (p : PortId) (s : State), Settled s → (s.port p).st = .connected → (s.port p).flashEnd = none →
     (s.port p).hashWin = none → (s.port p).digitsSeen = 0 →
     exec (.hashHashEntry p) s =
       .next (s.onPort p fun q => { q with digitsSeen := 1, hashWin := some {
                                             expiry := s.now + 2000, afterFlash := false } })) ∧
  (∀ (p : PortId) (s : State), (s.port p).st = .connected → (s.port p).flashEnd.isSome = true →
     ∃ t, exec (.hashHashEntry p) s = .next t ∧
     leaves [portPart p] s t ∧
     (t.port p).rest = ({ s.port p with flashEnd := none, digitsSeen := 1, hashWin := some {
                                          expiry := s.now + 2000, afterFlash := true } } : Port).rest) ∧
  (∀ (p : PortId) (s : State), (s.port p).st = .connected → (s.port p).flashEnd = none →
     (s.port p).hashWin.isSome = true →
     ∃ t, exec (.hashHashEntry p) s = .next t ∧
     (t.port p).hashWin = none ∧
     (t.port p).st = .loc ∧ (t.port p).mute = false ∧ (t.port p).fifo = [] ∧ (t.port p).flashEnd = none ∧
       (t.port p).lockoutEnd = some (s.now + 60000) ∧ (t.port p).hook = (s.port p).hook ∧
     ((s.port p).tone = .none → (t.port p).tone = .stateTone true (s.now + 100)) ∧
     (match t.sender.sender with | .tone r _ _ => decide (r ≠ p) | _ => true) = true ∧ t.loop.loop = s.loop.loop ∧
     ((s.port (otherPort p)).st ≠ .connected ∧ s.loop.loop = .closed ∧ s.loop.park = none ∧
       s.loop.recallState = .none → t.loop.lead = some { acts := ((s.loop.lead.map Lead.acts).getD []) ++
                                                           [.loopOpen], placed := s.now,
                                                         stale := s.chan.noticeInFlight,
                                                         sent := none } ∧
       t.chan.noticeSlot = some (mergeNotice s.chan.noticeSlot .loopOpen 3)) ∧
     ((s.port (otherPort p)).st = .connected ∧ s.loop.loop = .opened → t.loop.lead = some {
           acts := ((s.loop.lead.map Lead.acts).getD []) ++ [.loopClose], placed := s.now,
           stale := s.chan.noticeInFlight, sent := none } ∧
       t.chan.noticeSlot = some (mergeNotice s.chan.noticeSlot .loopClose 3)) ∧
     (if (s.port (otherPort p)).st = .connected then s.loop.loop ≠ .opened →
       t.loop.lead = s.loop.lead ∧ t.chan.noticeSlot = s.chan.noticeSlot else
       s.loop.loop ≠ .closed ∨ s.loop.recallState ≠ .none → t.loop.lead = s.loop.lead ∧
       t.chan.noticeSlot = s.chan.noticeSlot) ∧
     leaves [portPart p, fifoPart p, .loop, .channel, .hold, .modem, .resp] s t)

/-- R18, R92: the flash code 0. The ## watch counts no digit in REFUSED (assumption 14). -/
def Obligations.RetrieveParkedCall : Prop :=
  (∀ (p : PortId) (k : Park) (s : State), s.loop.park = some k → (s.port p).st = .connected ∨
     (s.port p).st = .refused → (s.port p).flashEnd.isSome = true → k.port = p → k.phase ≠ .releasing →
     ∃ t, exec (.retrieve p) s = .next t ∧
     (t.port p).st = .connected ∧ (t.port p).mute = false ∧ (t.port p).flashEnd = none ∧
       (t.port p).lockoutEnd = none ∧ (t.port p).fifo = [] ∧
     t.loop.park = none ∧ t.loop.loop = (if s.loop.loop = .hold then .closed else s.loop.loop) ∧
       t.loop.lead = s.loop.lead ∧
     (k.phase = .offered → t.chan.callSlot = some (.withdrawn, k.target, k.parkId)) ∧
     (k.phase = .recalling → (t.ringOf p).demandRecall = false) ∧
     leaves [portPart p, fifoPart p, .ring, .survey, .loop, .channel] s t) ∧
  (∀ (p : PortId) (s : State), (s.port p).st = .connected → (s.port p).flashEnd.isSome = true →
     (s.loop.park.all fun k => decide (k.port ≠ p ∨ k.phase = .releasing)) = true →
     ∃ t, exec (.retrieve p) s = .next t ∧
     leaves [portPart p] s t ∧
     (t.port p).rest = ({ s.port p with flashEnd := none, digitsSeen := min 2 ((s.port p).digitsSeen + 1),
                                        mute := false, tone := .oneShot .error (s.now + 2000) } : Port).rest) ∧
  (∀ (p : PortId) (s : State), (s.port p).st = .refused → (s.port p).flashEnd.isSome = true →
     (s.loop.park.all fun k => decide (k.port ≠ p ∨ k.phase = .releasing)) = true →
     ∃ t, exec (.retrieve p) s = .next t ∧
     leaves [portPart p] s t ∧
     (t.port p).rest = ({ s.port p with flashEnd := none, lockoutEnd := some (s.now + 60000),
                                        tone := .oneShot .error (s.now + 2000) } : Port).rest)

/-- R15, R19, R23, R82: the flash window, the "##" window and the lockout timer expire. -/
def Obligations.PortTimerExpiries : Prop :=
  (∀ (p : PortId) (d : Nat) (s : State), (s.port p).flashEnd = some d → (s.port p).st = .connected →
     d ≤ s.now → s.loop.loop = .closed → s.loop.recallState = .none →
     ∃ t, exec (.flashWindowExpiry p) s = .next t ∧
     (t.port p).rest = ({ s.port p with flashEnd := none, mute := false } : Port).rest ∧
     t.loop.recallState = .lead ∧ t.loop.loop = .closed ∧ t.loop.lead = some {
           acts := ((s.loop.lead.map Lead.acts).getD []) ++ [.recall], placed := s.now,
           stale := s.chan.noticeInFlight, sent := none } ∧
       t.chan.noticeSlot = some (mergeNotice s.chan.noticeSlot .loopOpen 5) ∧
     leaves [portPart p, .loop, .channel, .hold, .modem, .resp] s t) ∧
  (∀ (p : PortId) (d : Nat) (s : State), (s.port p).flashEnd = some d → (s.port p).st = .connected →
     d ≤ s.now → s.loop.loop ≠ .closed ∨ s.loop.recallState ≠ .none →
     ∃ t, exec (.flashWindowExpiry p) s = .next t ∧
     (t.port p).rest = ({ s.port p with flashEnd := none, mute := false } : Port).rest ∧
     leaves [portPart p] s t) ∧
  (∀ (p : PortId) (d : Nat) (s : State), (s.port p).flashEnd = some d → Settled s → (s.port p).st = .refused →
     d ≤ s.now →
     exec (.flashWindowExpiry p) s =
       .next (s.onPort p fun q => { q with flashEnd := none })) ∧
  (∀ (p : PortId) (w : HashWindow) (s : State), (s.port p).hashWin = some w → Settled s → w.expiry ≤ s.now →
     exec (.hashWindowExpiry p) s =
       .next (s.onPort p fun q => { q with hashWin := none, mute := q.mute && !w.afterFlash })) ∧
  (∀ (p : PortId) (d : Nat) (s : State), (s.port p).lockoutEnd = some d → (s.port p).st = .loc ∨
     (s.port p).st = .refused → d ≤ s.now →
     ∃ t, exec (.lockout p) s = .next t ∧
     (t.port p).rest = ({ s.port p with st := .lockout, cause := none, tone := .none, ann := none,
                                        flashEnd := none, hashWin := none, lockoutEnd := none,
                                        pair := none } : Port).rest ∧
     (s.log.records.length < 32 ∨ s.log.hasActive .handsetLockout s.own (some (portNum p)) = true →
       t.log.hasActive .handsetLockout s.own (some (portNum p)) = true) ∧
       t.log.rest = (raiseOwn .handsetLockout (some (portNum p)) none s).log.rest ∧
     leaves [portPart p, .log] s t)

/-- R6, R20, R21, R22, R23, R129, R131: the digits of LOCAL. Code 3 dialled again keeps the earlier second (assumption
29). On code 0 a bridging port begins no lead, also while the loop is still OPEN (assumption 55). -/
def Obligations.ServiceCodes : Prop :=
  (∀ (p : PortId) (s : State), Settled s → (s.port p).st = .loc →
     exec (.announceTheFaultLog p) s =
       .next (s.onPort p fun q => { q with lockoutEnd := some (s.now + 60000), tone := .announcing,
                                           ann := some (if (((s.log.records.filter fun r => decide (r.st =
                                             .active)).take 8).map fun r => (r.seq, r.cls.num)) = [] then {
                                             list := [], place := 0, beeps := 0, phase := .allClear,
                                             ends := s.now + 2000 } else {
                                             list := (((s.log.records.filter fun r => decide (r.st = .active)).take
                                               8).map fun r => (r.seq, r.cls.num)), place := 0,
                                             beeps := ((((s.log.records.filter fun r => decide (r.st =
                                               .active)).take 8).map fun r => (r.seq, r.cls.num)).getD 0 (0,
                                             0)).2, phase := .beep, ends := s.now + 150 }) })) ∧
  (∀ (p : PortId) (s : State), (s.port p).st = .loc →
     ∃ t, exec (.surveyNow p) s = .next t ∧
     (t.port p).rest = ({ s.port p with lockoutEnd := some (s.now + 60000), ann := none,
                                        tone := .oneShot .confirm (s.now + 1000) } : Port).rest ∧
     t.survey = (if s.survey.stage = .idle then { s.survey with
           dueEnd := some (s.now + 60000), deferrals := min 255 (s.survey.deferrals + 1) } else s.survey) ∧
     (s.survey.stage = .idle ∧ s.survey.deferrals = 9 ∧ s.log.records.length < 32 →
       t.log.hasActive .surveyBlocked s.own none = true) ∧
     (s.survey.stage ≠ .idle ∨ s.survey.deferrals ≠ 9 → t.log.records = s.log.records) ∧
     t.log.rest = (if s.survey.stage = .idle ∧ s.survey.deferrals = 9 then
       raiseOwn .surveyBlocked none none s else s).log.rest ∧
     leaves [portPart p, .survey, .log] s t) ∧
  (∀ (p : PortId) (s : State), Settled s → (s.port p).st = .loc →
     exec (.serviceCodeRestart p) s =
       .next (s.onPort p fun q => { q with lockoutEnd := some (s.now + 60000), ann := none,
                                           tone := .oneShot .confirm (s.now + 1000),
                                           restartAt := q.restartAt.or (some (s.now + 1000)) })) ∧
  (∀ (p : PortId) (d : Digit) (s : State), Settled s → (s.port p).st = .loc → d ≠ .num 0 → d ≠ .num 1 →
     d ≠ .num 2 → d ≠ .num 3 →
     exec (.serviceCodeRefused p d) s =
       .next (s.onPort p fun q => { q with lockoutEnd := some (s.now + 60000), ann := none,
                                           tone := .oneShot .error (s.now + 2000) })) ∧
  (∀ (p : PortId) (s : State), (s.port p).st = .loc →
     ∃ t, exec (.leaveLocal p) s = .next t ∧
     (t.port p).st = (if s.line.st = .dead then .loc else if s.loop.loop = .hold then .refused else
       if (s.port (otherPort p)).st = .connected then .connected else if ((s.line.st = .inUse ∧
       s.loop.loop = .opened) ∨ s.peerInUse = true) ∧ s.profile.privacy = .priv then .refused else .connected) ∧
     t.loop.loop = s.loop.loop ∧
     ((t.port p).st = .connected → (t.port p).lockoutEnd = none ∧ (t.port p).flashEnd = none ∧
       (t.port p).digitsSeen = 0 ∧ (t.port p).hashWin = none ∧ (t.port p).mute = false ∧ (t.port p).fifo = []) ∧
     ((t.port p).st ≠ .connected → (t.port p).lockoutEnd = some (s.now + 60000) ∧ (t.port p).fifo = []) ∧
     (s.line.st = .dead → (t.port p).tone = .announcing ∧
       (t.port p).ann = some (if (((s.log.records.filter fun r => decide (r.st = .active)).take 8).map fun r =>
       (r.seq, r.cls.num)) = [] then { list := [], place := 0, beeps := 0, phase := .allClear,
                                       ends := s.now + 2000 } else {
           list := (((s.log.records.filter fun r => decide (r.st = .active)).take 8).map fun r => (r.seq,
           r.cls.num)), place := 0, beeps := ((((s.log.records.filter fun r => decide (r.st = .active)).take 8).map
             fun r => (r.seq, r.cls.num)).getD 0 (0, 0)).2, phase := .beep, ends := s.now + 150 })) ∧
     ((t.port p).st = .connected ∧ (s.port (otherPort p)).st ≠ .connected ∧ s.loop.loop = .opened →
       t.loop.lead = some { acts := ((s.loop.lead.map Lead.acts).getD []) ++ [.loopClose], placed := s.now,
                            stale := s.chan.noticeInFlight, sent := none } ∧
       t.chan.noticeSlot = some (mergeNotice s.chan.noticeSlot .loopClose 3)) ∧
     ((t.port p).st ≠ .connected ∨ (s.port (otherPort p)).st = .connected ∨ s.loop.loop ≠ .opened →
       t.loop.lead = s.loop.lead ∧ t.chan.noticeSlot = s.chan.noticeSlot) ∧
     (t.port p).hook = (s.port p).hook ∧ ((t.port p).ann = none ∨ s.line.st = .dead) ∧ leaves [portPart p,
       fifoPart p, .loop, .channel, .hold, .modem, .resp] s t) ∧
  (List.map FaultClass.num [.lineDown, .loopHigh, .joint, .earth, .noise, .linkLost, .retrainRest,
     .modemSilent, .handsetLockout, .ringFault, .peerSilent, .numberClash, .channelJam,
     .surveyBlocked, .profileDefault] = [1, 2, 3, 4, 5, 6, 7, 8, 9, 10, 11, 12, 13, 14, 15])

/-- R7, R20, R23: the periods of an announcement and its end; the end of a one-shot tone, and the periods of busy tone
(500 ms, 500 ms) and of the LOCAL pip (100 ms every 2 s). A state tone resumes with its on period, and each later
period runs from the end of the one before (assumption 26). -/
def Obligations.TonesAndAnnouncements : Prop :=
  (∀ (p : PortId) (a : Announcement) (s : State), (s.port p).ann = some a → Settled s → a.ends ≤ s.now →
     a.phase = .beep →
     exec (.announcementBeepPeriod p) s =
       .next (s.onPort p fun q => { q with ann := some { a with phase := .silence, ends := a.ends + 150 } })) ∧
  (∀ (p : PortId) (a : Announcement) (s : State), (s.port p).ann = some a → Settled s → a.ends ≤ s.now →
     a.phase = .silence → 1 < a.beeps →
     exec (.announcementBeepPeriod p) s =
       .next (s.onPort p fun q => { q with ann := some { a with
                                             phase := .beep, beeps := a.beeps - 1, ends := a.ends + 150 } })) ∧
  (∀ (p : PortId) (a : Announcement) (s : State), (s.port p).ann = some a → Settled s → a.ends ≤ s.now →
     a.phase = .silence → a.beeps ≤ 1 →
     exec (.announcementBeepPeriod p) s =
       .next (s.onPort p fun q => { q with ann := some { a with phase := .gap, beeps := 0,
                                                                ends := a.ends + 1000 } })) ∧
  (∀ (p : PortId) (a : Announcement) (s : State), (s.port p).ann = some a → Settled s → a.ends ≤ s.now →
     a.phase = .gap → a.place + 1 < a.list.length →
     exec (.announcementBeepPeriod p) s =
       .next (s.onPort p fun q => { q with ann := some { a with
                                             phase := .beep, place := a.place + 1,
                                             beeps := (a.list.getD (a.place + 1) (0, 0)).2,
                                             ends := a.ends + 150 } })) ∧
  (∀ (p : PortId) (a : Announcement) (s : State), (s.port p).ann = some a → Settled s → a.ends ≤ s.now →
     a.phase = .allClear ∨ (a.phase = .gap ∧ a.list.length ≤ a.place + 1) → (s.port p).st = .loc →
     (s.port p).tone = .announcing →
     exec (.announcementEnd p) s =
       .next (s.onPort p fun q => { q with ann := none, lockoutEnd := some (s.now + 60000),
                                           tone := .stateTone true (s.now + 100) })) ∧
  (∀ (p : PortId) (k : OneShot) (e : Nat) (s : State), (s.port p).tone = .oneShot k e → Settled s → e ≤ s.now →
     exec (.oneShotToneEnd p) s =
       .next (s.onPort p fun q => { q with tone := if q.st = .refused then .stateTone true (s.now + 500) else
                                             if q.st = .loc then .stateTone true (s.now + 100) else .none })) ∧
  (∀ (p : PortId) (on : Bool) (e : Nat) (s : State), (s.port p).tone = .stateTone on e → Settled s →
     e ≤ s.now → (s.port p).st = .refused →
     exec (.stateTonePeriod p) s =
       .next (s.onPort p fun q => { q with tone := .stateTone (!on) (e + 500) })) ∧
  (∀ (p : PortId) (on : Bool) (e : Nat) (s : State), (s.port p).tone = .stateTone on e → Settled s →
     e ≤ s.now → (s.port p).st = .loc →
     exec (.stateTonePeriod p) s =
       .next (s.onPort p fun q => { q with tone := .stateTone (!on) (e + if on then 1900 else 100) }))

/-! ### Ringing, cadence and caller display (02) -/

/-- R24: the raw edges of ring voltage. An edge at or past 100 ms, taken before the declaration, withholds it
(assumption 53). -/
def Obligations.RingDetector : Prop :=
  (∀ (s : State), Settled s → s.ring.burst = .quiet →
     exec .ringVoltageOn s =
       .next (s.onRing fun r => { r with voltage := true, burst := .starting, burstSince := s.now })) ∧
  (∀ (s : State), Settled s → s.ring.burst = .ending →
     exec .ringVoltageOn s =
       .next (s.onRing fun r => { r with voltage := true, burst := .burst, burstSince := s.now })) ∧
  (∀ (s : State), Settled s → s.ring.burst = .starting →
     exec .ringVoltageOff s =
       .next (s.onRing fun r => { r with voltage := false, burst := .quiet, burstSince := s.now })) ∧
  (∀ (s : State), Settled s → s.ring.burst = .burst →
     exec .ringVoltageOff s =
       .next (s.onRing fun r => { r with voltage := false, burst := .ending, burstSince := s.now }))

/-- R24, R25, R27, R28, R29, R31, R36, R40, R138: a burst start, by the call state. It sets aside a message begun in a
window that has expired too (assumption 44). -/
def Obligations.BurstStart : Prop :=
  (∀ (s : State), s.ring.burst = .starting → s.ring.burstSince + 100 ≤ s.now → s.ring.call = .none →
     ∃ t, exec .burstStart s = .next t ∧
     t.ring.burst = .burst ∧ t.ring.quietEnd = none ∧ t.ring.callerEnd = none ∧ t.ring.receiving = false ∧
       (∀ p, (t.ringOf p).sendEnd = none) ∧ t.survey.stage.measuring = false ∧ (∀ p,
       (s.ringOf p).mode = .mirror → (t.ringOf p).gateSince = some s.now) ∧
     t.ring.call = .inProgress ∧ t.ring.burstNo = 1 ∧ t.ring.record = none ∧ t.ring.windowOpened = false ∧
       (∀ p, (t.ringOf p).sent = false) ∧
     (∀ p, (t.ringOf p).admitted = decide ((s.port p).st ≠ .absent ∧ s.policy p ≠ .never ∧
       (s.policy p = .daytime → (s.time.clock.all fun c => decide (s.profile.dayStart = s.profile.dayEnd ∨
       (s.profile.dayStart < s.profile.dayEnd ∧ s.profile.dayStart ≤ c.hour ∧
       c.hour < s.profile.dayEnd) ∨ (s.profile.dayEnd < s.profile.dayStart ∧ (s.profile.dayStart ≤ c.hour ∨
       c.hour < s.profile.dayEnd)))) = true))) ∧
     (∀ p, (if (s.port p).st = .idle ∧ (t.ringOf p).admitted = true ∧ s.policy p ≠ .never ∧
       (s.policy p = .delayed → s.profile.delayedBursts + 1 ≤ 1) then (t.port p).st = .ringing ∧
       (t.port p).cause = some .exchange ∧ (t.ringOf p).mode = .mirror ∧
       (t.ringOf p).gateSince = some s.now ∧ (t.ringOf p).cut = false ∧ t.driveHigh p = true else
       (t.port p).rest = (s.port p).rest ∧ (t.ringOf p).mode = (s.ringOf p).mode)) ∧
     leaves [.port1, .port2, .ring, .survey, .hold, .modem, .resp] s t) ∧
  (∀ (s : State), s.ring.burst = .starting → s.ring.burstSince + 100 ≤ s.now → s.ring.call = .inProgress →
     ∃ t, exec .burstStart s = .next t ∧
     t.ring.burst = .burst ∧ t.ring.quietEnd = none ∧ t.ring.callerEnd = none ∧ t.ring.receiving = false ∧
       (∀ p, (t.ringOf p).sendEnd = none) ∧ t.survey.stage.measuring = false ∧ (∀ p,
       (s.ringOf p).mode = .mirror → (t.ringOf p).gateSince = some s.now) ∧
     t.ring.call = .inProgress ∧ t.ring.burstNo = min 255 (s.ring.burstNo + 1) ∧
       t.ring.record = s.ring.record ∧ t.ring.windowOpened = s.ring.windowOpened ∧ (∀ p,
       (t.ringOf p).sent = (s.ringOf p).sent ∧ (t.ringOf p).admitted = (s.ringOf p).admitted) ∧
     (∀ p, (if (s.port p).st = .idle ∧ (s.ringOf p).admitted = true ∧ s.policy p ≠ .never ∧
       (s.policy p = .delayed → s.profile.delayedBursts + 1 ≤ min 255 (s.ring.burstNo + 1)) then
       (t.port p).st = .ringing ∧ (t.port p).cause = some .exchange ∧ (t.ringOf p).mode = .mirror ∧
       (t.ringOf p).gateSince = some s.now ∧ (t.ringOf p).cut = false ∧ t.driveHigh p = true else
       (t.port p).rest = (s.port p).rest ∧ (t.ringOf p).mode = (s.ringOf p).mode)) ∧
     leaves [.port1, .port2, .ring, .survey, .hold, .modem, .resp] s t) ∧
  (∀ (s : State), s.ring.burst = .starting → s.ring.burstSince + 100 ≤ s.now → s.ring.call = .answered →
     ∃ t, exec .burstStart s = .next t ∧
     t.ring.burst = .burst ∧ t.ring.quietEnd = none ∧ t.ring.callerEnd = none ∧ t.ring.receiving = false ∧
       (∀ p, (t.ringOf p).sendEnd = none) ∧ t.survey.stage.measuring = false ∧ (∀ p,
       (s.ringOf p).mode = .mirror → (t.ringOf p).gateSince = some s.now) ∧
     t.ring.call = .answered ∧ t.ring.burstNo = s.ring.burstNo ∧ t.ring.record = s.ring.record ∧
       t.ring.windowOpened = s.ring.windowOpened ∧
     leaves [.ring, .survey, .hold, .modem, .resp] s t)

/-- R24, R25, R26, R31, R35, R36, R39: a burst end, and the quiet timer's expiry. A DELAYED port's send moment falls
from burst n on. The window opens at the end of burst 1, the call answered or not, and once in a call: the mark
windowOpened says that it has (assumption 49). The end of the call sets aside a message begun in a window that has
expired too (assumption 44). -/
def Obligations.BurstEndAndQuietTimer : Prop :=
  (∀ (s : State), s.ring.burst = .ending → s.ring.burstSince + 100 ≤ s.now →
     ∃ t, exec .burstEnd s = .next t ∧
     t.ring.burst = .quiet ∧ t.ring.call = s.ring.call ∧ t.ring.burstNo = s.ring.burstNo ∧
     t.ring.quietEnd = (if s.ring.call = .none then s.ring.quietEnd else some (s.now + 6000)) ∧
     (s.ring.call ≠ .none ∧ s.ring.burstNo = 1 ∧ s.ring.windowOpened = false →
       t.ring.callerEnd = some (s.now + 4000) ∧ t.ring.windowOpened = true) ∧
     (s.ring.call = .none ∨ s.ring.burstNo ≠ 1 ∨ s.ring.windowOpened = true →
       t.ring.callerEnd = s.ring.callerEnd ∧ t.ring.windowOpened = s.ring.windowOpened) ∧
     (∀ p, (t.ringOf p).mode = (s.ringOf p).mode ∧ (t.ringOf p).gateSince = if (s.ringOf p).mode = .mirror then
       none else (s.ringOf p).gateSince) ∧
     (∀ p, (s.ringOf p).mode = .mirror ∧ (s.ringOf p).gateSince.isSome = true ∧
       (s.ringOf p).cut = false → t.log.hasActive .ringFault s.own (some (portNum p)) = false) ∧
     let done : PortId → State → State := fun p u => if (s.ringOf p).mode = .mirror ∧
       (s.ringOf p).gateSince.isSome = true ∧ (s.ringOf p).cut = false then
       clearOwn .ringFault (some (portNum p)) u else u
     t.log.rest = (done .two (done .one s)).log.rest ∧
     (∀ p, (t.ringOf p).sendEnd = if s.owed p = true ∧ ((s.port p).st = .idle ∨ ((s.port p).st = .ringing ∧
       (s.port p).cause = some .exchange)) ∧ (s.ringOf p).sendEnd = none ∧
       (s.policy p = .delayed → s.profile.delayedBursts ≤ s.ring.burstNo) then some (s.now + 750) else
       (s.ringOf p).sendEnd) ∧
     leaves [.ring, .log] s t) ∧
  (∀ (d : Nat) (s : State), s.ring.quietEnd = some d → d ≤ s.now → s.ring.call = .inProgress →
     ∃ t, exec .quietTimerExpiry s = .next t ∧
     t.ring.call = .none ∧ t.ring.quietEnd = none ∧ t.ring.callerEnd = none ∧
       t.ring.receiving = false ∧ t.ring.record = s.ring.record ∧
     (∀ p, (t.ringOf p).sendEnd = none ∧ t.ringsFor p .exchange = false) ∧
     (∀ p, s.ringsFor p .exchange = true ∧ (s.ringOf p).demandRecall = false ∧
       (s.ringOf p).demandTransfer = false → (t.port p).st = .idle ∧ (t.port p).cause = none ∧
       (t.ringOf p).mode = .off ∧ (t.ringOf p).gateSince = none ∧ (t.ringOf p).cut = false) ∧
     (∀ p, s.ringsFor p .exchange = false → (t.port p).rest = (s.port p).rest ∧
       (t.ringOf p).mode = (s.ringOf p).mode) ∧
     leaves [.port1, .port2, .ring, .survey] s t) ∧
  (∀ (d : Nat) (s : State), s.ring.quietEnd = some d → Settled s → d ≤ s.now → s.ring.call ≠ .inProgress →
     exec .quietTimerExpiry s =
       .next (s.onRing fun r => { r with quietEnd := none, call := .none }))

/-- R31 to R35: the ring wave, the periods of a pattern, and an overload. The two patterns' pairs are the manual's. -/
def Obligations.PatternsAndOverload : Prop :=
  (∀ (p : PortId) (k : Pattern) (i e : Nat) (s : State), (s.ringOf p).mode = .pattern k i true e → e ≤ s.now →
     ∃ t, exec (.patternPeriodEnd p) s = .next t ∧
     (t.ringOf p).mode = .pattern k i false (e + 50 * ((if k = .transfer then [(8, 4), (8, 40)] else [(4, 4),
       (4, 4), (4, 4), (4, 40)]).getD i (1, 1)).2) ∧ (t.ringOf p).gateSince = none ∧
       (t.ringOf p).cut = (s.ringOf p).cut ∧
     t.ringOf (otherPort p) = s.ringOf (otherPort p) ∧
     ((s.ringOf p).gateSince.isSome = true ∧ (s.ringOf p).cut = false →
       t.log.hasActive .ringFault s.own (some (portNum p)) = false) ∧
     t.log.rest = (if (s.ringOf p).gateSince.isSome = true ∧ (s.ringOf p).cut = false then
       clearOwn .ringFault (some (portNum p)) s else s).log.rest ∧
     leaves [.ring, .log] s t) ∧
  (∀ (p : PortId) (k : Pattern) (i e : Nat) (s : State), (s.ringOf p).mode = .pattern k i false e → Settled s →
     e ≤ s.now → (s.ringOf p).gateSince = none →
     exec (.patternPeriodEnd p) s =
       .next (s.onRingOf p fun r => { r with mode := .pattern k (if i + 1 < (if k = .transfer then 2 else 4) then
                                               i + 1 else 0) true (e + if k = .transfer then 400 else
                                               200), gateSince := some s.now })) ∧
  (∀ (p : PortId) (s : State), (s.port p).st = .ringing → (s.ringOf p).gateSince.isSome = true →
     (s.ringOf p).cut = false →
     ∃ t, exec (.ringOverload p) s = .next t ∧
     t.ringOf p = { s.ringOf p with cut := true } ∧ t.ringOf (otherPort p) = s.ringOf (otherPort p) ∧
     (s.log.records.length < 32 ∨ s.log.hasActive .ringFault s.own (some (portNum p)) = true →
       t.log.hasActive .ringFault s.own (some (portNum p)) = true) ∧
     t.log.rest = (raiseOwn .ringFault (some (portNum p)) none s).log.rest ∧
     leaves [.ring, .log] s t) ∧
  (∀ (s : State) (p : PortId) (o : Nat), (s.port p).st = .ringing → (s.ringOf p).gateSince = some o →
     (s.ringOf p).cut = false → o ≤ s.now → (s.driveHigh p = true ↔ ∃ k r : Nat, s.now = o + 40 * k + r ∧ r < 20)) ∧
  (∀ (s : State) (p : PortId), (s.port p).st ≠ .ringing ∨ (s.ringOf p).gateSince = none ∨ (s.ringOf p).cut = true →
     s.driveHigh p = false)

/-- R36 to R40, R97: the caller window, messages and sends. The message's byte layout is not given (assumption 7). -/
def Obligations.CallerDisplay : Prop :=
  (∀ (d : Nat) (s : State), s.ring.callerEnd = some d → Settled s → d ≤ s.now →
     exec .callerWindowExpiry s =
       .next (s.onRing fun r => { r with callerEnd := none })) ∧
  (∀ (s : State), Settled s → s.ring.callerEnd.isSome = true →
     exec .callerMessageFirstByte s =
       .next (s.onRing fun r => { r with receiving := true })) ∧
  (∀ (m : CallerMessage) (s : State), Settled s → s.ring.receiving = true → m.sum ≠ 0 ∨
     m.dateTime.length ≠ 8 ∨ m.number.any (fun n => decide (18 < n.length)) = true ∨
     m.name.any (fun n => decide (20 < n.length)) = true →
     exec (.callerMessage m) s =
       .next (s.onRing fun r => { r with receiving := false, checkFails := min 255 (r.checkFails + 1) })) ∧
  (∀ (m : CallerMessage) (s : State), s.ring.receiving = true → m.sum = 0 → m.dateTime.length = 8 →
     m.number.any (fun n => decide (18 < n.length)) = false →
     m.name.any (fun n => decide (20 < n.length)) = false → s.ring.overwrites ≤ 255 →
     ∃ t, exec (.callerMessage m) s = .next t ∧
     t.ring.receiving = false ∧ t.ring.checkFails = s.ring.checkFails ∧
     t.ring.record = some { dateTime := m.dateTime, number := m.number, name := m.name, withheld := m.withheld } ∧
     t.ring.overwrites = min 255 (s.ring.overwrites + (if s.ring.ring1.sendEnd.isSome then 1 else
       0) + (if s.ring.ring2.sendEnd.isSome then 1 else 0)) ∧
     (∀ p, (t.ringOf p).sendEnd = if s.ring.record = none ∧ s.policy p = .delayed ∧
       s.ring.burstNo = s.profile.delayedBursts ∧ (s.ring.burst = .quiet ∨ s.ring.burst = .starting) ∧
       s.ring.call = .inProgress ∧ (s.ringOf p).admitted = true ∧ (s.ringOf p).sent = false ∧
       ((s.port p).st = .idle ∨ ((s.port p).st = .ringing ∧ (s.port p).cause = some .exchange)) then
       some (s.now + 750) else none) ∧ (∀ p, (t.ringOf p).sent = (s.ringOf p).sent) ∧
     t.time.clock = (if validTime (twoDigits m.dateTime 0) (twoDigits m.dateTime 2) (twoDigits m.dateTime 4)
       (twoDigits m.dateTime 6) then some { quality := .caller, month := twoDigits m.dateTime 0,
                                            day := twoDigits m.dateTime 2, hour := twoDigits m.dateTime 4,
                                            minute := twoDigits m.dateTime 6, second := 0 } else s.time.clock) ∧
     leaves [.ring, .time, .hold] s t) ∧
  (∀ (p : PortId) (d : Nat) (s : State), (s.ringOf p).sendEnd = some d → Settled s → d ≤ s.now →
     exec (.callerSendEnd p) s =
       .next (s.onRingOf p fun r => { r with sendEnd := none, sent := true }))

/-! ### The station channel (03) -/

/-- R41, R45, R51, R52: carrier, the quiet gap and the backoff units. Quiet counts from the wait's beginning or the
latest carrier lost (assumption 21); the two reports tell of the other sources in the band, and the own transmission
is carrier beside them (assumption 46). -/
def Obligations.CarrierAndGap : Prop :=
  (∀ (s : State), Settled s →
     exec .carrierPresent s =
       .next (s.onChan fun c => { c with carrier := true, gapMet := false, quietFrom := none })) ∧
  (∀ (s : State), Settled s → s.chan.flight = none → s.chan.carrier = true → s.chan.rx = .frame →
     exec .carrierAbsent s =
       .next (s.onChan fun c => { c with rx := .hunt, checkFails := min 65535 (c.checkFails + 1),
                                         slots := c.slots.filter fun x => decide (x ≠ .filling),
                                         carrier := false, quietFrom := some s.now })) ∧
  (∀ (s : State), Settled s → s.chan.flight = none → s.chan.carrier = true → s.chan.rx ≠ .frame →
     exec .carrierAbsent s =
       .next (s.onChan fun c => { c with rx := if c.rx = .drain then .hunt else c.rx, carrier := false,
                                         quietFrom := some s.now })) ∧
  (∀ (s : State), Settled s → s.chan.flight ≠ none →
     exec .carrierAbsent s =
       .next (s.onChan fun c => { c with carrier := false })) ∧
  (∀ (q : Nat) (s : State), s.chan.quietFrom = some q → Settled s → s.chan.tx = .waiting →
     s.chan.carrier = false → s.chan.flight = none → q + 20 ≤ s.now → s.chan.gapMet = false → s.chan.count ≠ 0 →
     exec .quietGapMet s =
       .next (s.onChan fun c => { c with gapMet := true, quietFrom := some (q + 20) })) ∧
  (∀ (q : Nat) (s : State), s.chan.quietFrom = some q → Settled s → s.chan.tx = .waiting →
     s.chan.carrier = false → s.chan.flight = none → q + 10 ≤ s.now → s.chan.gapMet = true → 1 < s.chan.count →
     exec .backoffUnit s =
       .next (s.onChan fun c => { c with count := c.count - 1, quietFrom := some (q + 10) })) ∧
  (∀ c : Channel, c.carrierPresent = true ↔ c.carrier = true ∨ c.flight ≠ none) ∧
  (∀ s : State, s.chan.carrierPresent = true → exec .quietGapMet s = .next s ∧ exec .backoffUnit s = .next s)

/-- R45, R46, R51: a wait completes and the first pending slot in send order goes into flight. A receiver in FRAME
with no carrier reported stays in FRAME (assumption 50). -/
def Obligations.WaitCompletes : Prop :=
  (∀ (q : Nat) (s : State), s.chan.quietFrom = some q → Settled s → ChannelOk s →
     s.chan.tx = .waiting → s.chan.carrier = false → q + 20 ≤ s.now → s.chan.gapMet = false → s.chan.count = 0 →
     ∃ t, exec .quietGapMet s = .next t ∧
     t.chan.tx = .sending ∧ t.chan.carrierPresent = true ∧
       t.chan.flight = (s.chan.noticeSlot.map fun x => Frame.notice x.1 x.2).or ((s.chan.callSlot.map fun x =>
       Frame.call x.1 x.2.1 x.2.2).or ((s.chan.faultSlot.map Frame.fault).or ((s.chan.stateSlot.map Frame.state).or
       (s.chan.surveySlot.map Frame.survey)))) ∧ t.chan.began = s.now ∧
     t.chan.rx = (if s.chan.rx = .hunt ∨ s.chan.rx = .drain then .silent else s.chan.rx) ∧
     t.chan.noticeSlot = none ∧ t.chan.callSlot = (if s.chan.noticeSlot = none then none else s.chan.callSlot) ∧
     t.chan.faultSlot = (if s.chan.noticeSlot = none ∧ s.chan.callSlot = none then none else s.chan.faultSlot) ∧
     t.chan.stateSlot = (if s.chan.noticeSlot = none ∧ s.chan.callSlot = none ∧ s.chan.faultSlot = none then
       none else s.chan.stateSlot) ∧
     t.chan.surveySlot = (if s.chan.noticeSlot = none ∧ s.chan.callSlot = none ∧
       s.chan.faultSlot = none ∧ s.chan.stateSlot = none then none else s.chan.surveySlot) ∧
     leaves [.channel, .transmit] s t) ∧
  (∀ (q : Nat) (s : State), s.chan.quietFrom = some q → Settled s → ChannelOk s →
     s.chan.tx = .waiting → s.chan.carrier = false → q + 10 ≤ s.now → s.chan.gapMet = true → s.chan.count = 1 →
     ∃ t, exec .backoffUnit s = .next t ∧
     t.chan.tx = .sending ∧ t.chan.carrierPresent = true ∧
       t.chan.flight = (s.chan.noticeSlot.map fun x => Frame.notice x.1 x.2).or ((s.chan.callSlot.map fun x =>
       Frame.call x.1 x.2.1 x.2.2).or ((s.chan.faultSlot.map Frame.fault).or ((s.chan.stateSlot.map Frame.state).or
       (s.chan.surveySlot.map Frame.survey)))) ∧ t.chan.began = s.now ∧
     t.chan.rx = (if s.chan.rx = .hunt ∨ s.chan.rx = .drain then .silent else s.chan.rx) ∧
     t.chan.noticeSlot = none ∧ t.chan.callSlot = (if s.chan.noticeSlot = none then none else s.chan.callSlot) ∧
     t.chan.faultSlot = (if s.chan.noticeSlot = none ∧ s.chan.callSlot = none then none else s.chan.faultSlot) ∧
     t.chan.stateSlot = (if s.chan.noticeSlot = none ∧ s.chan.callSlot = none ∧ s.chan.faultSlot = none then
       none else s.chan.stateSlot) ∧
     t.chan.surveySlot = (if s.chan.noticeSlot = none ∧ s.chan.callSlot = none ∧
       s.chan.faultSlot = none ∧ s.chan.stateSlot = none then none else s.chan.surveySlot) ∧
     leaves [.channel, .transmit] s t)

/-- R44, R45, R47, R49, R80, R132: a collision. The draw is a free value, numbered by the model's own field draws
(assumption 6); the quiet counts from the beginning of the wait (assumption 21), at which the own transmission's
carrier ends (assumption 46). -/
def Obligations.Collision : Prop :=
  (∀ (k : NoticeKind) (d : Nat) (s : State), s.chan.flight = some (.notice k d) → Settled s → s.chan.tx = .sending →
     ∃ t, exec .collision s = .next t ∧
     t.chan.flight = none ∧ t.chan.tx = .waiting ∧ t.chan.collisions = min 65535 (s.chan.collisions + 1) ∧
     t.chan.window = (if s.chan.window = 8 then 16 else if s.chan.window = 16 then 32 else 64) ∧
     t.chan.count = Config.backoffDraw s.chan.draws % t.chan.window ∧
       t.chan.draws = s.chan.draws + 1 ∧ t.chan.gapMet = false ∧ t.chan.jamEnd = s.chan.jamEnd ∧
     t.chan.quietFrom = (if s.chan.carrier then none else some s.now) ∧
     t.chan.rx = (if s.chan.rx = .silent then .hunt else s.chan.rx) ∧
     t.chan.noticeSlot = some (match s.chan.noticeSlot with | some x => (x.1, max x.2 d) | none => (k,
       d)) ∧ t.chan.callSlot = s.chan.callSlot ∧
     leaves [.channel, .loop, .survey] s t) ∧
  (∀ (c : CallStep) (n i : Nat) (s : State), s.chan.flight = some (.call c n i) → Settled s → s.chan.tx = .sending →
     ∃ t, exec .collision s = .next t ∧
     t.chan.flight = none ∧ t.chan.tx = .waiting ∧ t.chan.collisions = min 65535 (s.chan.collisions + 1) ∧
     t.chan.window = (if s.chan.window = 8 then 16 else if s.chan.window = 16 then 32 else 64) ∧
     t.chan.count = Config.backoffDraw s.chan.draws % t.chan.window ∧
       t.chan.draws = s.chan.draws + 1 ∧ t.chan.gapMet = false ∧ t.chan.jamEnd = s.chan.jamEnd ∧
     t.chan.quietFrom = (if s.chan.carrier then none else some s.now) ∧
     t.chan.rx = (if s.chan.rx = .silent then .hunt else s.chan.rx) ∧
     t.chan.callSlot = s.chan.callSlot.or (some (c, n, i)) ∧ t.chan.noticeSlot = s.chan.noticeSlot ∧
       leaves [.channel] s t) ∧
  (∀ (f : Snapshot) (s : State), s.chan.flight = some (.fault f) → Settled s → s.chan.tx = .sending →
     ∃ t, exec .collision s = .next t ∧
     t.chan.flight = none ∧ t.chan.tx = .waiting ∧ t.chan.collisions = min 65535 (s.chan.collisions + 1) ∧
     t.chan.window = (if s.chan.window = 8 then 16 else if s.chan.window = 16 then 32 else 64) ∧
     t.chan.count = Config.backoffDraw s.chan.draws % t.chan.window ∧
       t.chan.draws = s.chan.draws + 1 ∧ t.chan.gapMet = false ∧ t.chan.jamEnd = s.chan.jamEnd ∧
     t.chan.quietFrom = (if s.chan.carrier then none else some s.now) ∧
     t.chan.rx = (if s.chan.rx = .silent then .hunt else s.chan.rx) ∧
     t.chan.faultSlot = s.chan.faultSlot.or (some f) ∧ t.chan.stateSlot = s.chan.stateSlot ∧ leaves [.channel] s t) ∧
  (∀ (f : StateFields) (s : State), s.chan.flight = some (.state f) → Settled s → s.chan.tx = .sending →
     ∃ t, exec .collision s = .next t ∧
     t.chan.flight = none ∧ t.chan.tx = .waiting ∧ t.chan.collisions = min 65535 (s.chan.collisions + 1) ∧
     t.chan.window = (if s.chan.window = 8 then 16 else if s.chan.window = 16 then 32 else 64) ∧
     t.chan.count = Config.backoffDraw s.chan.draws % t.chan.window ∧
       t.chan.draws = s.chan.draws + 1 ∧ t.chan.gapMet = false ∧ t.chan.jamEnd = s.chan.jamEnd ∧
     t.chan.quietFrom = (if s.chan.carrier then none else some s.now) ∧
     t.chan.rx = (if s.chan.rx = .silent then .hunt else s.chan.rx) ∧
     t.chan.stateSlot = s.chan.stateSlot.or (some f) ∧ t.chan.faultSlot = s.chan.faultSlot ∧ leaves [.channel] s t) ∧
  (∀ (f : Figures) (s : State), s.chan.flight = some (.survey f) → Settled s → s.chan.tx = .sending →
     ∃ t, exec .collision s = .next t ∧
     t.chan.flight = none ∧ t.chan.tx = .waiting ∧ t.chan.collisions = min 65535 (s.chan.collisions + 1) ∧
     t.chan.window = (if s.chan.window = 8 then 16 else if s.chan.window = 16 then 32 else 64) ∧
     t.chan.count = Config.backoffDraw s.chan.draws % t.chan.window ∧
       t.chan.draws = s.chan.draws + 1 ∧ t.chan.gapMet = false ∧ t.chan.jamEnd = s.chan.jamEnd ∧
     t.chan.quietFrom = (if s.chan.carrier then none else some s.now) ∧
     t.chan.rx = (if s.chan.rx = .silent then .hunt else s.chan.rx) ∧
     t.chan.surveySlot = s.chan.surveySlot.or (some f) ∧ leaves [.channel] s t) ∧
  (∀ (k : NoticeKind) (d : Nat) (s : State), (s.chan.noticeSlot = none →
       mergeNotice s.chan.noticeSlot k d = (k, d) ∧ (placeNotice k d s).chan.noticeSlot = some (k, d)) ∧
     (∀ (older : NoticeKind) (e : Nat), s.chan.noticeSlot = some (older, e) →
       mergeNotice s.chan.noticeSlot k d = (k, if e < d then d else e) ∧
       (placeNotice k d s).chan.noticeSlot = some (k, if e < d then d else e)))

/-- R42, R45, R48, R49, R80, R132: the end of a transmission. A lead counts the report of a NOTICE begun after its
placement. The draw is a free value, numbered by the model's own field draws (assumption 6); the quiet counts from the
beginning of the wait (assumption 21), at which the own transmission's carrier ends (assumption 46). -/
def Obligations.SendSuccess : Prop :=
  (∀ (f : Frame) (s : State), s.chan.flight = some f → Settled s → s.chan.tx = .sending →
     10 * (8 + f.bodyLength) ≤ 3 * (s.now - s.chan.began) → s.log.hasActive .channelJam s.own none = false →
     ∃ t, exec .sendSuccess s = .next t ∧
     t.chan.flight = none ∧ t.chan.window = 8 ∧ t.chan.sent = min 65535 (s.chan.sent + 1) ∧
     t.chan.rx = (if s.chan.rx = .silent then .hunt else s.chan.rx) ∧
     t.chan.tx = (if s.chan.pending then .waiting else .idle) ∧ t.chan.jamEnd = (if s.chan.pending then
       some (s.now + 30000) else none) ∧
     (s.chan.pending = true → t.chan.count = Config.backoffDraw s.chan.draws % 8 ∧
       t.chan.draws = s.chan.draws + 1 ∧ t.chan.gapMet = false ∧ t.chan.quietFrom = if s.chan.carrier then
       none else some s.now) ∧
     t.chan.noticeSlot = s.chan.noticeSlot ∧ t.chan.callSlot = s.chan.callSlot ∧
       t.chan.faultSlot = s.chan.faultSlot ∧ t.chan.stateSlot = s.chan.stateSlot ∧
       t.chan.surveySlot = s.chan.surveySlot ∧
     (f.kind ≠ .notice → t.loop = s.loop ∧ t.survey = s.survey) ∧ t.log = s.log ∧
     leaves [.channel, .loop, .survey] s t) ∧
  (∀ (k : NoticeKind) (d : Nat) (l : Lead) (s : State), s.chan.flight = some (.notice k d) →
     s.loop.lead = some l → Settled s → s.chan.tx = .sending → 100 ≤ 3 * (s.now - s.chan.began) → l.stale = false →
     ∃ t, exec .sendSuccess s = .next t ∧
     t.loop = { s.loop with lead := some { l with sent := some (l.sent.getD s.now) } } ∧
       (s.survey.lead = none → t.survey = s.survey)) ∧
  (∀ (k : NoticeKind) (d : Nat) (l : Lead) (s : State), s.chan.flight = some (.notice k d) →
     s.loop.lead = some l → Settled s → s.chan.tx = .sending → 100 ≤ 3 * (s.now - s.chan.began) → l.stale = true →
     ∃ t, exec .sendSuccess s = .next t ∧
     t.loop = { s.loop with lead := some { l with stale := false } } ∧ (s.survey.lead = none → t.survey = s.survey)) ∧
  (∀ (k : NoticeKind) (d : Nat) (l : SurveyLead) (s : State), s.chan.flight = some (.notice k d) →
     s.survey.lead = some l → Settled s → s.chan.tx = .sending → 100 ≤ 3 * (s.now - s.chan.began) →
     l.stale = false →
     ∃ t, exec .sendSuccess s = .next t ∧
     t.survey = { s.survey with lead := some { l with sent := some (l.sent.getD s.now) } } ∧
       (s.loop.lead = none → t.loop = s.loop)) ∧
  (∀ (k : NoticeKind) (d : Nat) (l : SurveyLead) (s : State), s.chan.flight = some (.notice k d) →
     s.survey.lead = some l → Settled s → s.chan.tx = .sending → 100 ≤ 3 * (s.now - s.chan.began) → l.stale = true →
     ∃ t, exec .sendSuccess s = .next t ∧
     t.survey = { s.survey with lead := some { l with stale := false } } ∧ (s.loop.lead = none → t.loop = s.loop)) ∧
  (∀ (f : Frame) (s : State), s.chan.flight = some f → Settled s → s.chan.tx = .sending →
     10 * (8 + f.bodyLength) ≤ 3 * (s.now - s.chan.began) →
     ∃ t, exec .sendSuccess s = .next t ∧
     t.log.hasActive .channelJam s.own none = false ∧
       t.log.rest = (clearOwn .channelJam none s).log.rest ∧ t.chan.flight = none ∧ t.chan.window = 8 ∧
       t.chan.sent = min 65535 (s.chan.sent + 1) ∧ t.chan.rx = (if s.chan.rx = .silent then .hunt else s.chan.rx) ∧
     t.chan.noticeSlot = s.chan.noticeSlot ∧ t.chan.callSlot = s.chan.callSlot ∧
       t.chan.surveySlot = s.chan.surveySlot ∧
     ((s.log.records.any fun r => decide (r.st = .active ∧ r.cls = .channelJam ∧ r.origin = s.own ∧
       r.qual = none ∧ r.source = .own)) = true → t.chan.stateSlot = some t.stateFields ∧
       t.chan.faultSlot = some t.log.snapshot) ∧
     leaves [.channel, .loop, .survey, .log] s t)

/-- R49, R54, R151 to R155, R158: the jam timer and the clash timer expire, and with them what the raise and the clear
of every key do to the log, by which other statements speak of it: a recurrence, a new record, a full log with a
record to remove and without. -/
def Obligations.JamAndClashTimers : Prop :=
  (∀ (d : Nat) (s : State), s.chan.jamEnd = some d → d ≤ s.now →
     ∃ t, exec .jamTimerExpiry s = .next t ∧
     (s.log.records.length < 32 ∨ s.log.hasActive .channelJam s.own none = true →
       t.log.hasActive .channelJam s.own none = true) ∧
     t.chan.flight = s.chan.flight ∧ t.chan.window = s.chan.window ∧
     (s.chan.pending = true ∨ s.chan.flight ≠ none → t.chan.jamEnd = none) ∧ leaves [.log] s t) ∧
  (∀ (d : Nat) (s : State), s.chan.jamEnd = some d → d ≤ s.now → s.log.hasActive .channelJam s.own none = true →
     ∃ t, exec .jamTimerExpiry s = .next t ∧
     t.log.records = s.log.records.map (fun r => if r.st = .active ∧ r.cls = .channelJam ∧ r.origin = s.own ∧
       r.qual = none then { r with count := min 255 (r.count + 1), last := s.secs } else r) ∧
     t.log.seqCounter = s.log.seqCounter ∧ t.log.overflow = s.log.overflow ∧ leaves [.log] s t) ∧
  (∀ (d : Nat) (s : State), s.chan.jamEnd = some d → d ≤ s.now →
     s.log.hasActive .channelJam s.own none = false → s.log.records.length < 32 →
     ∃ t, exec .jamTimerExpiry s = .next t ∧
     let new : Record := { seq := s.log.seqCounter, cls := .channelJam, origin := s.own, qual := none,
                           source := .own, st := .active, reported := false, first := s.secs, last := s.secs,
                           stamp := s.time.clock.map fun k => Stamp.mk k.month k.day k.hour k.minute,
                           count := 1, value := none }
     t.log.records = s.log.records ++ [new] ∧ (s.log.records.all (fun r => decide (r.seq ≠ (if 65535 ≤
       s.log.seqCounter then 1 else s.log.seqCounter + 1))) = true →
       t.log.seqCounter = (if 65535 ≤ s.log.seqCounter then 1 else s.log.seqCounter + 1)) ∧
       t.log.overflow = s.log.overflow ∧ t.chan.faultSlot = some t.log.snapshot ∧ leaves [.log] s t) ∧
  (∀ (d : Nat) (s : State), s.chan.jamEnd = some d → d ≤ s.now →
     s.log.hasActive .channelJam s.own none = false → s.log.records.length = 32 →
     (s.log.records.any fun r => (decide (r.st = .cleared) && r.reported)) = true →
     ∃ t, exec .jamTimerExpiry s = .next t ∧
     let new : Record := { seq := s.log.seqCounter, cls := .channelJam, origin := s.own, qual := none,
                           source := .own, st := .active, reported := false, first := s.secs, last := s.secs,
                           stamp := s.time.clock.map fun k => Stamp.mk k.month k.day k.hour k.minute,
                           count := 1, value := none }
     t.log.records = s.log.records.eraseP (fun r => (decide (r.st = .cleared) && r.reported)) ++ [new] ∧
       t.log.overflow = s.log.overflow ∧ t.chan.faultSlot = some t.log.snapshot ∧ leaves [.log] s t) ∧
  (∀ (d : Nat) (s : State), s.chan.jamEnd = some d → d ≤ s.now →
     s.log.hasActive .channelJam s.own none = false → s.log.records.length = 32 →
     (s.log.records.any fun r => (decide (r.st = .cleared) && r.reported)) = false →
     (s.log.records.any fun r => decide (r.st = .cleared)) = true →
     ∃ t, exec .jamTimerExpiry s = .next t ∧
     let new : Record := { seq := s.log.seqCounter, cls := .channelJam, origin := s.own, qual := none,
                           source := .own, st := .active, reported := false, first := s.secs, last := s.secs,
                           stamp := s.time.clock.map fun k => Stamp.mk k.month k.day k.hour k.minute,
                           count := 1, value := none }
     t.log.records = s.log.records.eraseP (fun r => decide (r.st = .cleared)) ++ [new] ∧
       t.log.overflow = s.log.overflow ∧ t.chan.faultSlot = some t.log.snapshot ∧ leaves [.log] s t) ∧
  (∀ (d : Nat) (s : State), s.chan.jamEnd = some d → d ≤ s.now →
     s.log.hasActive .channelJam s.own none = false → s.log.records.length = 32 →
     (s.log.records.all fun r => decide (r.st = .active)) = true →
     ∃ t, exec .jamTimerExpiry s = .next t ∧
     t.log.records = s.log.records ∧ t.log.seqCounter = s.log.seqCounter ∧
       t.log.overflow = (if s.log.overflow < 65535 then s.log.overflow + 1 else 65535) ∧ leaves [.log] s t) ∧
  (∀ (d : Nat) (s : State), s.chan.clashEnd = some d → d ≤ s.now →
     ∃ t, exec .clashTimerExpiry s = .next t ∧
     t.log.records = s.log.records.map (fun r => if r.st = .active ∧ r.cls = .numberClash ∧
       r.origin = s.own ∧ r.qual = none then { r with st := .cleared, reported := false, last := s.secs } else r) ∧
     t.log.hasActive .numberClash s.own none = false ∧ t.chan.clashEnd = none ∧ leaves [.channel, .log] s t) ∧
  (∀ (c : FaultClass) (o : Nat) (q : Option Nat) (src : Source) (v : Option Nat) (n : Nat) (s : State),
     let key : Record → Bool := fun r => decide (r.st = .active ∧ r.cls = c ∧ r.origin = o ∧ r.qual = q)
     let read : Record → Bool := fun r => decide (r.st = .cleared ∧ r.reported = true)
     let gone : Record → Bool := fun r => decide (r.st = .cleared)
     let new : Record := { seq := s.log.seqCounter, cls := c, origin := o, qual := q, source := src,
                           st := .active, reported := false, first := s.secs, last := s.secs,
                           stamp := s.time.clock.map fun k => Stamp.mk k.month k.day k.hour k.minute,
                           count := if src = .mirrored then n else 1, value := v }
     let t := raise c o q src v n s
     changesOnly [.log, .asked] s t ∧ t.log.run = s.log.run ∧ t.log.pendingRun = s.log.pendingRun ∧
       t.log.reference = s.log.reference ∧
     (s.log.records.any key = true →
       t.log.records = s.log.records.map (fun r => if key r then { r with
             count := if src = .mirrored then n else min 255 (r.count + 1), last := s.secs,
             value := if v = none then r.value else v } else r) ∧
       t.log.seqCounter = s.log.seqCounter ∧ t.log.overflow = s.log.overflow) ∧
     (s.log.records.any key = false → s.log.records.length < 32 →
       t.log.records = s.log.records ++ [new] ∧ t.log.overflow = s.log.overflow) ∧
     (s.log.records.any key = false → 32 ≤ s.log.records.length → s.log.records.any read = true →
       t.log.records = s.log.records.eraseP read ++ [new] ∧ t.log.overflow = s.log.overflow) ∧
     (s.log.records.any key = false → 32 ≤ s.log.records.length → s.log.records.any read = false →
       s.log.records.any gone = true → t.log.records = s.log.records.eraseP gone ++ [new] ∧
         t.log.overflow = s.log.overflow) ∧
     (s.log.records.any key = false → 32 ≤ s.log.records.length → s.log.records.any gone = false →
       t.log.records = s.log.records ∧ t.log.seqCounter = s.log.seqCounter ∧
       t.log.overflow = (if s.log.overflow < 65535 then s.log.overflow + 1 else 65535)) ∧
     (s.log.records.any key = false → (s.log.records.length < 32 ∨ s.log.records.any gone = true) →
       s.log.records.all (fun r => decide (r.seq ≠ (if 65535 ≤ s.log.seqCounter then 1 else
         s.log.seqCounter + 1))) = true → t.log.seqCounter = (if 65535 ≤ s.log.seqCounter then
         1 else s.log.seqCounter + 1))) ∧
  (∀ (c : FaultClass) (o : Nat) (q : Option Nat) (s : State),
     let t := clear c o q s
     changesOnly [.log, .asked] s t ∧ t.log.run = s.log.run ∧ t.log.pendingRun = s.log.pendingRun ∧
       t.log.reference = s.log.reference ∧
     t.log.records = s.log.records.map (fun r => if r.st = .active ∧ r.cls = c ∧ r.origin = o ∧ r.qual = q then
       { r with st := .cleared, reported := false, last := s.secs } else r) ∧
     t.log.seqCounter = s.log.seqCounter ∧ t.log.overflow = s.log.overflow) ∧
  (∀ (c : FaultClass) (q v : Option Nat) (s : State), raiseOwn c q v s = raise c s.own q .own v 1 s ∧
     clearOwn c q s = clear c s.own q s)

/-- R51, R52, R55, R187, R188: a sync found, and a body length byte above 32. A sync is taken whether or not carrier
is reported (assumption 50). -/
def Obligations.SyncAndLength : Prop :=
  (∀ (bits : List Bool) (s : State), Settled s → s.chan.rx = .hunt → bits = [true, true, false, false, true,
     true, false, true, true, false, true, true, false, false, true, false] → s.chan.slots.length < 2 →
     exec (.syncFound bits) s =
       .next (s.onChan fun c => { c with rx := .frame, slots := c.slots ++ [.filling] })) ∧
  (∀ (bits : List Bool) (s : State), Settled s → s.chan.rx = .hunt → bits = [true, true, false, false, true,
     true, false, true, true, false, true, true, false, false, true, false] → 2 ≤ s.chan.slots.length →
     exec (.syncFound bits) s =
       .next (s.onChan fun c => { c with rx := .drain, overruns := min 65535 (c.overruns + 1) })) ∧
  (∀ (bits : List Bool) (s : State), s.chan.rx ≠ .hunt ∨ bits ≠ [true, true, false, false, true, true, false,
     true, true, false, true, true, false, false, true, false] →
     exec (.syncFound bits) s =
       .next (s)) ∧
  (∀ (len : Byte) (s : State), Settled s → s.chan.rx = .frame → 32 < len.toNat →
     exec (.bodyLengthTooLong len) s =
       .next (s.onChan fun c => { c with rx := .drain, formatErrs := min 65535 (c.formatErrs + 1),
                                         slots := c.slots.filter fun x => decide (x ≠ .filling) }))

/-- R53, R54, R187: the tests of a received frame in their order. -/
def Obligations.FrameEnd : Prop :=
  (∀ (ks : Byte) (body : List Byte) (check : Half) (s : State), Settled s →
     s.chan.rx = .frame → s.chan.slots.contains .filling = true → body.length ≤ 32 →
     check ≠ frameCheck (ks :: b8 body.length :: body) →
     exec (.frameEnd ks body check) s =
       .next (s.onChan fun c => { c with rx := .hunt, checkFails := min 65535 (c.checkFails + 1),
                                         slots := c.slots.filter fun x => decide (x ≠ .filling) })) ∧
  (∀ (ks : Byte) (body : List Byte) (check : Half) (s : State), Settled s →
     s.chan.rx = .frame → s.chan.slots.contains .filling = true → body.length ≤ 32 →
     check = frameCheck (ks :: b8 body.length :: body) →
     (frameKindOf (ks.toNat / 8)).all (fun k => decide (body.length < k.least)) = true →
     exec (.frameEnd ks body check) s =
       .next (s.onChan fun c => { c with rx := .hunt, formatErrs := min 65535 (c.formatErrs + 1),
                                         slots := c.slots.filter fun x => decide (x ≠ .filling) })) ∧
  (∀ (ks : Byte) (body : List Byte) (check : Half) (k : FrameKind) (s : State),
     frameKindOf (ks.toNat / 8) = some k → s.chan.rx = .frame → s.chan.slots.contains .filling = true →
     body.length ≤ 32 → check = frameCheck (ks :: b8 body.length :: body) → k.least ≤ body.length →
     ks.toNat % 8 + 1 = s.own →
     ∃ t, exec (.frameEnd ks body check) s = .next t ∧
     t.chan.rx = .hunt ∧ t.chan.slots = s.chan.slots.filter (fun x => decide (x ≠ .filling)) ∧
       t.chan.clashEnd = some (s.now + 600000) ∧ t.chan.received = s.chan.received ∧
     (s.log.records.length < 32 ∨ s.log.hasActive .numberClash s.own none = true →
       t.log.hasActive .numberClash s.own none = true) ∧ t.log.rest = (raiseOwn .numberClash none none s).log.rest ∧
     leaves [.channel, .log] s t) ∧
  (∀ (ks : Byte) (body : List Byte) (check : Half) (k : FrameKind) (s : State),
     frameKindOf (ks.toNat / 8) = some k → Settled s → s.chan.rx = .frame →
     s.chan.slots.contains .filling = true → body.length ≤ 32 →
     check = frameCheck (ks :: b8 body.length :: body) → k.least ≤ body.length → ks.toNat % 8 + 1 ≠ s.own →
     exec (.frameEnd ks body check) s =
       .next (s.onChan fun c => { c with rx := .hunt, received := min 65535 (c.received + 1),
                                         slots := c.slots.map fun x => if x = .filling then .delivered {
                                           kind := k, sender := ks.toNat % 8 + 1, body := body } else x }))

/-! ### The peer table and announcements (04) -/

/-- R27, R55, R56, R57, R63 to R67, R72, R138: a delivered frame of each kind reaches the peer table first, and its
slot is freed; a peer that comes to show its loop CLOSED answers an exchange call. A message begun in a window that
has expired is set aside too (assumption 44). -/
def Obligations.FramesUpdateThePeerTable : Prop :=
  (∀ (f : RxFrame) (rest : List RxSlot) (s : State), s.chan.slots = .delivered f :: rest →
     rest.any RxSlot.isProcessing = false → f.kind = .state →
     ∃ t, exec .state s = .next t ∧
     t.peer f.sender = some { (s.peer f.sender).getD (Peer.create f.sender s.now) with
           present := true, lastHeard := s.now, silenceEnd := some (s.now + 40000), removalEnd := none,
           statePart := some (readState f.body, s.now) } ∧ (∀ n, n ≠ f.sender → t.peer n = s.peer n) ∧
       ((s.peer f.sender).all (fun e => !e.present) = true →
       t.log.hasActive .peerSilent s.own (some f.sender) = false) ∧
       t.log.rest = (if s.hold.role = .resting ∧ t.hold.role ≠ .resting then
       clearOwn .retrainRest none (if (s.peer f.sender).all (fun e => !e.present) = true then
       clearOwn .peerSilent (some f.sender) s else s) else
       (if (s.peer f.sender).all (fun e => !e.present) = true then
       clearOwn .peerSilent (some f.sender) s else s)).log.rest ∧ (if s.ring.call = .inProgress ∧
       (readState f.body).loop = .closed ∧ (s.peer f.sender).any (fun e => e.present && e.statePart.any fun q =>
       decide (q.1.loop = .closed)) = false then t.ring.call = .answered ∧
       t.ring.callerEnd = none ∧ t.ring.receiving = false ∧ (∀ p, (t.ringOf p).sendEnd = none ∧
       t.ringsFor p .exchange = false) else t.ring.call = s.ring.call) ∧
     t.chan.slots = rest ∧ leaves [.peers, .channel, .hold, .modem, .log, .resp, .port1, .port2, .ring,
       .survey, .time, .loop] s t) ∧
  (∀ (f : RxFrame) (rest : List RxSlot) (s : State), s.chan.slots = .delivered f :: rest →
     rest.any RxSlot.isProcessing = false → f.kind = .notice →
     ∃ t, exec .notice s = .next t ∧
     t.peer f.sender = some { (s.peer f.sender).getD (Peer.create f.sender s.now) with
           present := true, lastHeard := s.now, silenceEnd := some (s.now + 40000), removalEnd := none,
           notice := some { kind := noticeKindOf (u8 f.body 0), receipt := s.now,
                            ends := s.now + 100 * max 1 (min 50 (u8 f.body 1)) } } ∧ (∀ n, n ≠ f.sender →
       t.peer n = s.peer n) ∧ ((s.peer f.sender).all (fun e => !e.present) = true →
       t.log.hasActive .peerSilent s.own (some f.sender) = false) ∧
       t.log.rest = (if s.hold.role = .resting ∧ t.hold.role ≠ .resting then
       clearOwn .retrainRest none (if (s.peer f.sender).all (fun e => !e.present) = true then
       clearOwn .peerSilent (some f.sender) s else s) else
       (if (s.peer f.sender).all (fun e => !e.present) = true then
       clearOwn .peerSilent (some f.sender) s else s)).log.rest ∧ (if s.ring.call = .inProgress ∧
       (s.peer f.sender).any (fun e => !e.present && e.statePart.any fun q => decide (q.1.loop = .closed)) = true
       then t.ring.call = .answered ∧ t.ring.callerEnd = none ∧ t.ring.receiving = false ∧ (∀ p,
       (t.ringOf p).sendEnd = none ∧ t.ringsFor p .exchange = false) else t.ring.call = s.ring.call) ∧
     t.chan.slots = rest ∧ t.survey.stage.measuring = false ∧ leaves [.peers, .channel, .hold, .modem, .log,
       .resp, .port1, .port2, .ring, .survey] s t) ∧
  (∀ (f : RxFrame) (rest : List RxSlot) (s : State), s.chan.slots = .delivered f :: rest →
     rest.any RxSlot.isProcessing = false → f.kind = .call →
     ∃ t, exec .call s = .next t ∧
     t.peer f.sender = some { (s.peer f.sender).getD (Peer.create f.sender s.now) with
           present := true, lastHeard := s.now, silenceEnd := some (s.now + 40000), removalEnd := none } ∧ (∀ n,
       n ≠ f.sender → t.peer n = s.peer n) ∧ ((s.peer f.sender).all (fun e => !e.present) = true →
       t.log.hasActive .peerSilent s.own (some f.sender) = false) ∧
       t.log.rest = (if s.hold.role = .resting ∧ t.hold.role ≠ .resting then
       clearOwn .retrainRest none (if (s.peer f.sender).all (fun e => !e.present) = true then
       clearOwn .peerSilent (some f.sender) s else s) else
       (if (s.peer f.sender).all (fun e => !e.present) = true then
       clearOwn .peerSilent (some f.sender) s else s)).log.rest ∧ (if s.ring.call = .inProgress ∧
       (s.peer f.sender).any (fun e => !e.present && e.statePart.any fun q => decide (q.1.loop = .closed)) = true
       then t.ring.call = .answered ∧ t.ring.callerEnd = none ∧ t.ring.receiving = false ∧ (∀ p,
       (t.ringOf p).sendEnd = none ∧ t.ringsFor p .exchange = false) else t.ring.call = s.ring.call) ∧
     t.chan.slots = rest ∧ leaves [.peers, .channel, .hold, .modem, .log, .resp, .port1, .port2, .ring,
       .survey, .loop] s t) ∧
  (∀ (f : RxFrame) (rest : List RxSlot) (s : State), s.chan.slots = .delivered f :: rest →
     rest.any RxSlot.isProcessing = false → f.kind = .fault → s.isModem = false →
     ∃ t, exec .fault s = .next t ∧
     t.peer f.sender = some { (s.peer f.sender).getD (Peer.create f.sender s.now) with
           present := true, lastHeard := s.now, silenceEnd := some (s.now + 40000), removalEnd := none } ∧ (∀ n,
       n ≠ f.sender → t.peer n = s.peer n) ∧ ((s.peer f.sender).all (fun e => !e.present) = true →
       t.log.hasActive .peerSilent s.own (some f.sender) = false) ∧
       t.log.rest = (if s.hold.role = .resting ∧ t.hold.role ≠ .resting then
       clearOwn .retrainRest none (if (s.peer f.sender).all (fun e => !e.present) = true then
       clearOwn .peerSilent (some f.sender) s else s) else
       (if (s.peer f.sender).all (fun e => !e.present) = true then
       clearOwn .peerSilent (some f.sender) s else s)).log.rest ∧ (if s.ring.call = .inProgress ∧
       (s.peer f.sender).any (fun e => !e.present && e.statePart.any fun q => decide (q.1.loop = .closed)) = true
       then t.ring.call = .answered ∧ t.ring.callerEnd = none ∧ t.ring.receiving = false ∧ (∀ p,
       (t.ringOf p).sendEnd = none ∧ t.ringsFor p .exchange = false) else t.ring.call = s.ring.call) ∧
     t.chan.slots = rest ∧ leaves [.peers, .channel, .hold, .modem, .log, .resp, .port1, .port2, .ring, .survey] s t) ∧
  (∀ (f : RxFrame) (rest : List RxSlot) (s : State), s.chan.slots = .delivered f :: rest →
     rest.any RxSlot.isProcessing = false → f.kind = .fault → s.isModem = true →
     ∃ t, exec .fault s = .next t ∧
     t.peer f.sender = some { (s.peer f.sender).getD (Peer.create f.sender s.now) with
           present := true, lastHeard := s.now, silenceEnd := some (s.now + 40000), removalEnd := none } ∧ (∀ n,
       n ≠ f.sender → t.peer n = s.peer n) ∧ (f.sender ≠ s.own →
       ((s.peer f.sender).all (fun e => !e.present) = true →
       t.log.hasActive .peerSilent s.own (some f.sender) = false)) ∧
     (if s.ring.call = .inProgress ∧ (s.peer f.sender).any (fun e => !e.present && e.statePart.any fun q => decide
       (q.1.loop = .closed)) = true then t.ring.call = .answered ∧ t.ring.callerEnd = none ∧
       t.ring.receiving = false ∧ (∀ p, (t.ringOf p).sendEnd = none ∧
       t.ringsFor p .exchange = false) else t.ring.call = s.ring.call) ∧
     t.chan.slots = rest ∧ leaves [.peers, .channel, .hold, .modem, .log, .resp, .port1, .port2, .ring, .survey] s t) ∧
  (∀ (f : RxFrame) (rest : List RxSlot) (s : State), s.chan.slots = .delivered f :: rest →
     rest.any RxSlot.isProcessing = false → f.kind = .survey → s.isModem = false →
     ∃ t, exec .survey s = .next t ∧
     t.peer f.sender = some { (s.peer f.sender).getD (Peer.create f.sender s.now) with
           present := true, lastHeard := s.now, silenceEnd := some (s.now + 40000), removalEnd := none,
           figures := some (readFigures f.body, s.now) } ∧ (∀ n, n ≠ f.sender → t.peer n = s.peer n) ∧
       ((s.peer f.sender).all (fun e => !e.present) = true →
       t.log.hasActive .peerSilent s.own (some f.sender) = false) ∧
       t.log.rest = (if s.hold.role = .resting ∧ t.hold.role ≠ .resting then
       clearOwn .retrainRest none (if (s.peer f.sender).all (fun e => !e.present) = true then
       clearOwn .peerSilent (some f.sender) s else s) else
       (if (s.peer f.sender).all (fun e => !e.present) = true then
       clearOwn .peerSilent (some f.sender) s else s)).log.rest ∧ (if s.ring.call = .inProgress ∧
       (s.peer f.sender).any (fun e => !e.present && e.statePart.any fun q => decide (q.1.loop = .closed)) = true
       then t.ring.call = .answered ∧ t.ring.callerEnd = none ∧ t.ring.receiving = false ∧ (∀ p,
       (t.ringOf p).sendEnd = none ∧ t.ringsFor p .exchange = false) else t.ring.call = s.ring.call) ∧
     t.chan.slots = rest ∧ leaves [.peers, .channel, .hold, .modem, .log, .resp, .port1, .port2, .ring, .survey] s t) ∧
  (∀ (f : RxFrame) (rest : List RxSlot) (s : State), s.chan.slots = .delivered f :: rest →
     rest.any RxSlot.isProcessing = false → f.kind = .survey → s.isModem = true →
     ∃ t, exec .survey s = .next t ∧
     t.peer f.sender = some { (s.peer f.sender).getD (Peer.create f.sender s.now) with
           present := true, lastHeard := s.now, silenceEnd := some (s.now + 40000), removalEnd := none,
           figures := some (readFigures f.body, s.now) } ∧ (∀ n, n ≠ f.sender → t.peer n = s.peer n) ∧
       ((s.peer f.sender).all (fun e => !e.present) = true →
       t.log.hasActive .peerSilent s.own (some f.sender) = false) ∧
       t.log.records = (if s.hold.role = .resting ∧ t.hold.role ≠ .resting then
       clearOwn .retrainRest none (if (s.peer f.sender).all (fun e => !e.present) = true then
       clearOwn .peerSilent (some f.sender) s else s) else
       (if (s.peer f.sender).all (fun e => !e.present) = true then
       clearOwn .peerSilent (some f.sender) s else s)).log.records ∧ (if s.ring.call = .inProgress ∧
       (s.peer f.sender).any (fun e => !e.present && e.statePart.any fun q => decide (q.1.loop = .closed)) = true
       then t.ring.call = .answered ∧ t.ring.callerEnd = none ∧ t.ring.receiving = false ∧ (∀ p,
       (t.ringOf p).sendEnd = none ∧ t.ringsFor p .exchange = false) else t.ring.call = s.ring.call) ∧
     (s.log.run.isSome = true → t.chan.slots = .processing f :: rest ∧ t.log.run = s.log.run ∧
       t.log.pendingRun = some true) ∧
     leaves [.peers, .channel, .hold, .modem, .log, .resp, .port1, .port2, .ring, .survey] s t)

/-- R151 to R153, R159, R160, R161, R190: a snapshot applied on a station with the modem strap. The kept entries are
the entries that the body holds whole, at most six, judged as the table of R159 says, which the last clause writes
out: class, qualifier, count and value. -/
def Obligations.MirroredFaults : Prop :=
  (∀ (f : RxFrame) (rest : List RxSlot) (s : State), s.chan.slots = .delivered f :: rest →
     rest.any RxSlot.isProcessing = false → f.kind = .fault → s.isModem = true →
     s.log.records.length + 7 ≤ 32 → f.sender ≠ s.own → u8 f.body 0 < 128 →
     ∃ t, exec .fault s = .next t ∧
     let kept := (readSnapshot f.body).entries.filterMap FaultEntry.judge
     let raised := kept.foldl (fun u e => raise e.1 f.sender e.2.qual .mirrored e.2.value e.2.count u) (if
       s.hold.role = .resting ∧ t.hold.role ≠ .resting then
       clearOwn .retrainRest none (if (s.peer f.sender).all (fun e => !e.present) = true then
       clearOwn .peerSilent (some f.sender) s else s) else
       (if (s.peer f.sender).all (fun e => !e.present) = true then clearOwn .peerSilent (some f.sender) s else s))
     kept.all (fun e => t.log.hasActive e.1 f.sender e.2.qual) = true ∧
     t.log.records.all (fun r => !(r.isActive && decide (r.source = .mirrored) && decide (r.origin = f.sender)) ||
       kept.any fun e => decide (r.cls = e.1 ∧ r.qual = e.2.qual)) = true ∧
     t.log.rest = ({ raised.log with records := raised.log.records.map fun r => if r.st = .active ∧
                                       r.source = .mirrored ∧ r.origin = f.sender ∧
                                       (kept.any fun e => decide (r.cls = e.1 ∧ r.qual = e.2.qual)) = false then
                                       { r with st := .cleared, reported := false, last := s.secs } else
                                       r } : FaultLog).rest ∧
     t.chan.slots = rest ∧
     leaves [.peers, .channel, .hold, .modem, .log, .resp, .port1, .port2, .ring, .survey] s t) ∧
  (∀ (f : RxFrame) (rest : List RxSlot) (s : State), s.chan.slots = .delivered f :: rest →
     rest.any RxSlot.isProcessing = false → f.kind = .fault → s.isModem = true →
     s.log.records.length + 7 ≤ 32 → f.sender ≠ s.own → 128 ≤ u8 f.body 0 →
     ∃ t, exec .fault s = .next t ∧
     let kept := (readSnapshot f.body).entries.filterMap FaultEntry.judge
     let raised := kept.foldl (fun u e => raise e.1 f.sender e.2.qual .mirrored e.2.value e.2.count u) (if
       s.hold.role = .resting ∧ t.hold.role ≠ .resting then
       clearOwn .retrainRest none (if (s.peer f.sender).all (fun e => !e.present) = true then
       clearOwn .peerSilent (some f.sender) s else s) else
       (if (s.peer f.sender).all (fun e => !e.present) = true then clearOwn .peerSilent (some f.sender) s else s))
     kept.all (fun e => t.log.hasActive e.1 f.sender e.2.qual) = true ∧
     s.log.records.all (fun r => !(r.isActive && decide (r.origin = f.sender)) || t.log.hasActive r.cls r.origin
       r.qual) = true ∧ t.log.rest = raised.log.rest ∧
     t.chan.slots = rest ∧
     leaves [.peers, .channel, .hold, .modem, .log, .resp, .port1, .port2, .ring, .survey] s t) ∧
  (∀ (f : RxFrame) (rest : List RxSlot) (c : FaultClass) (x : FaultEntry) (s : State),
     s.chan.slots = .delivered f :: rest → (readSnapshot f.body).entries.filterMap FaultEntry.judge = [(c,
     x)] → rest.any RxSlot.isProcessing = false → f.kind = .fault → s.isModem = true → f.sender ≠ s.own →
     (s.peer f.sender).any (fun e => e.present) = true → 128 ≤ u8 f.body 0 →
     s.log.records.length < 32 → s.log.hasActive c f.sender x.qual = false →
     ∃ t, exec .fault s = .next t ∧
     let new : Record := { seq := s.log.seqCounter, cls := c, origin := f.sender, qual := x.qual,
                           source := .mirrored, st := .active, reported := false, first := s.secs,
                           last := s.secs, stamp := s.time.clock.map fun k => Stamp.mk k.month k.day k.hour
                             k.minute, count := x.count, value := x.value }
     t.log.records = s.log.records ++ [new] ∧ (s.log.records.all (fun r => decide (r.seq ≠ (if 65535 ≤
       s.log.seqCounter then 1 else s.log.seqCounter + 1))) = true →
       t.log.seqCounter = (if 65535 ≤ s.log.seqCounter then 1 else s.log.seqCounter + 1)) ∧
       leaves [.peers, .channel, .log] s t) ∧
  (∀ (f : RxFrame) (rest : List RxSlot) (c : FaultClass) (x : FaultEntry) (s : State),
     s.chan.slots = .delivered f :: rest → (readSnapshot f.body).entries.filterMap FaultEntry.judge = [(c,
     x)] → rest.any RxSlot.isProcessing = false → f.kind = .fault → s.isModem = true → f.sender ≠ s.own →
     (s.peer f.sender).any (fun e => e.present) = true → 128 ≤ u8 f.body 0 →
     s.log.hasActive c f.sender x.qual = true →
     ∃ t, exec .fault s = .next t ∧
     t.log.records = s.log.records.map (fun r => if r.st = .active ∧ r.cls = c ∧ r.origin = f.sender ∧
       r.qual = x.qual then { r with count := x.count, last := s.secs, value := x.value.or r.value } else r) ∧
     t.log.seqCounter = s.log.seqCounter ∧ leaves [.peers, .channel, .log] s t) ∧
  (∀ (f : RxFrame) (rest : List RxSlot) (s : State), s.chan.slots = .delivered f :: rest →
     (readSnapshot f.body).entries.filterMap FaultEntry.judge = [] → rest.any RxSlot.isProcessing = false →
     f.kind = .fault → s.isModem = true → f.sender ≠ s.own → (s.peer f.sender).any (fun e => e.present) = true →
     u8 f.body 0 < 128 →
     ∃ t, exec .fault s = .next t ∧
     t.log.records = s.log.records.map (fun r => if r.st = .active ∧ r.source = .mirrored ∧
       r.origin = f.sender then { r with st := .cleared, reported := false, last := s.secs } else r) ∧
     t.log.seqCounter = s.log.seqCounter ∧ leaves [.peers, .channel, .log] s t) ∧
  (∀ body : List Byte,
     ((readSnapshot body).entries.filterMap FaultEntry.judge).map (fun e => (e.1, e.2.qual, e.2.count, e.2.value)) =
       (List.range (min (min 6 (u8 body 0 % 128)) ((body.length - 1) / 5))).filterMap fun k =>
         let cls := u8 body (1 + 5 * k)
         let qual := u8 body (2 + 5 * k)
         let count := u8 body (3 + 5 * k)
         let value := u16 body (4 + 5 * k)
         if cls = 0 ∨ cls = 3 ∨ ((cls = 9 ∨ cls = 10) ∧ qual ≠ 1 ∧ qual ≠ 2) ∨ (cls = 11 ∧ (qual = 0 ∨ 8 < qual))
         then none
         else ([.lineDown, .loopHigh, .joint, .earth, .noise, .linkLost, .retrainRest,
           .modemSilent, .handsetLockout, .ringFault, .peerSilent, .numberClash, .channelJam,
           .surveyBlocked, .profileDefault] : List FaultClass)[cls - 1]?.map
             fun c => (c, if cls = 9 ∨ cls = 10 ∨ cls = 11 then some qual else none, max 1 count,
               if value = 0xFFFF then none
               else if cls = 2 then some (min 9999 value)
               else if cls = 4 then some (min 1000 value)
               else if cls = 5 then some (min 15 value)
               else if cls = 6 then some (max 1 (min 8 value))
               else none))

/-- R69, R70, R72: the silence expiry and the removal expiry of an entry. -/
def Obligations.PeerAgeing : Prop :=
  (∀ (n : Nat) (e : Peer) (d : Nat) (s : State), s.peer n = some e → e.silenceEnd = some d → e.present = true →
     d ≤ s.now →
     ∃ t, exec (.peerSilenceExpiry n) s = .next t ∧
     t.peer n = some { e with present := false, silenceEnd := none, removalEnd := some (s.now + 600000) } ∧
     (∀ m, m ≠ n → t.peer m = s.peer m) ∧
     (s.log.records.length < 32 ∨ s.log.hasActive .peerSilent s.own (some n) = true →
       t.log.hasActive .peerSilent s.own (some n) = true) ∧ t.log.rest = (if s.hold.role = .resting ∧
       t.hold.role ≠ .resting then clearOwn .retrainRest none (raiseOwn .peerSilent (some n) none s) else
       (raiseOwn .peerSilent (some n) none s)).log.rest ∧
     leaves [.peers, .hold, .modem, .log, .resp, .port1, .port2, .ring, .survey] s t) ∧
  (∀ (n : Nat) (e : Peer) (d : Nat) (s : State), s.peer n = some e → e.removalEnd = some d → e.present = false →
     d ≤ s.now →
     ∃ t, exec (.peerRemovalExpiry n) s = .next t ∧
     t.peer n = none ∧ (∀ m, m ≠ n → t.peer m = s.peer m) ∧
     (s.hold.role ≠ .resting → t.log.records = s.log.records) ∧
       t.log.rest = (if s.hold.role = .resting ∧ t.hold.role ≠ .resting then
       clearOwn .retrainRest none s else s).log.rest ∧
     leaves [.peers, .hold, .modem, .log, .resp, .port1, .port2, .ring, .survey] s t)

/-- R61, R62, R158: the announce timer's expiry. -/
def Obligations.AnnounceTimer : Prop :=
  ∀ (d : Nat) (s : State), s.announce.timerEnd = some d → d ≤ s.now →
    ∃ t, exec .announceTimerExpiry s = .next t ∧
    t.chan.stateSlot = some s.stateFields ∧
    t.announce = { timerEnd := some (s.now + 1000 * s.profile.announceInterval),
                   count := if 9 ≤ s.announce.count then 0 else s.announce.count + 1 } ∧
    (9 ≤ s.announce.count → t.chan.faultSlot = some s.log.snapshot) ∧ leaves [] s t

/-! ### The line, the loop and transfers (05) -/

/-- R74, R75, R76, R12, R78, R91: the line monitor's samples, and the rule of its runs. That the samples come every 50
ms is their sender's part (assumption 35); the good run stays at 40 (assumption 33); the busy tone begins with an on
period (assumption 26). Two CONNECTED ports that leave together make one request of the loop (assumption 55). -/
def Obligations.LineSamples : Prop :=
  (∀ (v : Code) (s : State), Settled s → s.ring.burst ≠ .quiet ∨
     s.survey.stage = .load ∨ s.loop.recallState.breaking = true →
     exec (.lineSample v) s =
       .next (s)) ∧
  (∀ (v : Code) (s : State), Settled s → LineOk s → s.ring.burst = .quiet →
     s.survey.stage ≠ .load → s.loop.recallState.breaking = false → 800 ≤ v.toNat → s.line.goodRun ≠ 39 →
     ¬ (s.line.st = .inUse ∧ 2 ≤ s.line.drop ∧ s.line.drop ≤ 20) →
     exec (.lineSample v) s =
       .next (s.onLine fun m => { m with st := .idle, useRun := 0, lowRun := 0, drop := 0,
                                         goodRun := min 40 (m.goodRun + 1) })) ∧
  (∀ (v : Code) (s : State), Settled s → LineOk s → s.ring.burst = .quiet →
     s.survey.stage ≠ .load → s.loop.recallState.breaking = false → 64 ≤ v.toNat → v.toNat < 800 →
     s.line.goodRun ≠ 39 → ¬ (s.line.st = .inUse ∧ 2 ≤ s.line.drop ∧ s.line.drop ≤ 20) → s.line.st = .inUse →
     exec (.lineSample v) s =
       .next (s.onLine fun m => { m with lowRun := 0, drop := 0, goodRun := min 40 (m.goodRun + 1) })) ∧
  (∀ (v : Code) (s : State), Settled s → LineOk s → s.ring.burst = .quiet →
     s.survey.stage ≠ .load → s.loop.recallState.breaking = false → 64 ≤ v.toNat → v.toNat < 800 →
     s.line.goodRun ≠ 39 → s.line.st ≠ .inUse → s.line.useRun < 2 →
     exec (.lineSample v) s =
       .next (s.onLine fun m => { m with useRun := m.useRun + 1, lowRun := 0, drop := 0,
                                         goodRun := min 40 (m.goodRun + 1) })) ∧
  (∀ (v : Code) (s : State), LineOk s → s.ring.burst = .quiet → s.survey.stage ≠ .load →
     s.loop.recallState.breaking = false → 64 ≤ v.toNat → s.line.goodRun = 39 → ¬ (s.line.st = .inUse ∧
     2 ≤ s.line.drop ∧ s.line.drop ≤ 20) → 800 ≤ v.toNat ∨ s.line.st = .inUse ∨ s.line.useRun < 2 →
     ∃ t, exec (.lineSample v) s = .next t ∧
     t.line = (if 800 ≤ v.toNat then { st := .idle, useRun := 0, lowRun := 0, goodRun := 40, drop := 0 } else
       if s.line.st = .inUse then { s.line with lowRun := 0, goodRun := 40, drop := 0 } else { s.line with
           useRun := s.line.useRun + 1, lowRun := 0, goodRun := 40, drop := 0 }) ∧
     t.log.records = s.log.records.map (fun r => if r.st = .active ∧ r.cls = .lineDown ∧ r.origin = s.own ∧
       r.qual = none then { r with st := .cleared, reported := false, last := s.secs } else r) ∧
       t.log.hasActive .lineDown s.own none = false ∧ leaves [.line, .log] s t) ∧
  (∀ (v : Code) (s : State), LineOk s → s.ring.burst = .quiet → s.survey.stage ≠ .load →
     s.loop.recallState.breaking = false → 64 ≤ v.toNat → v.toNat < 800 → s.line.st ≠ .inUse → s.line.useRun = 2 →
     ∃ t, exec (.lineSample v) s = .next t ∧
     t.line = { st := .inUse, useRun := 3, lowRun := 0, goodRun := min 40 (s.line.goodRun + 1),
                drop := 0 } ∧ t.log.records = (if s.line.goodRun = 39 then
       s.log.records.map (fun r => if r.st = .active ∧ r.cls = .lineDown ∧ r.origin = s.own ∧ r.qual = none then
       { r with st := .cleared, reported := false, last := s.secs } else r) else s.log.records) ∧
     t.ring.call = (if s.ring.call = .inProgress then .answered else s.ring.call) ∧
     (s.ring.call = .inProgress → t.ringsFor .one .exchange = false ∧ t.ringsFor .two .exchange = false) ∧
     t.survey.stage.measuring = false ∧ leaves [.port1, .port2, .ring, .survey, .line, .log] s t) ∧
  (∀ (v : Code) (s : State), Settled s → LineOk s → s.ring.burst = .quiet →
     s.survey.stage ≠ .load → s.loop.recallState.breaking = false → v.toNat < 64 → s.line.st ≠ .dead →
     s.line.lowRun < 39 →
     exec (.lineSample v) s =
       .next (s.onLine fun m => { m with useRun := if m.st = .idle then 0 else m.useRun,
                                         lowRun := m.lowRun + 1, drop := if m.st = .inUse then
                                           min 40 (m.drop + 1) else m.drop, goodRun := if m.goodRun = 40 then
                                           40 else 0 })) ∧
  (∀ (v : Code) (s : State), Settled s → LineOk s → s.ring.burst = .quiet →
     s.survey.stage ≠ .load → s.loop.recallState.breaking = false → v.toNat < 64 → s.line.st = .dead →
     exec (.lineSample v) s =
       .next (s.onLine fun m => { m with useRun := 0, goodRun := if m.goodRun = 40 then 40 else 0 })) ∧
  (∀ (v : Code) (s : State), LineOk s → s.ring.burst = .quiet → s.survey.stage ≠ .load →
     s.loop.recallState.breaking = false → v.toNat < 64 → s.line.st ≠ .dead → s.line.lowRun = 39 →
     ∃ t, exec (.lineSample v) s = .next t ∧
     t.line = { st := .dead, useRun := 0, lowRun := 40, goodRun := 0, drop := 0 } ∧
       (s.log.records.length < 32 ∨ s.log.hasActive .lineDown s.own none = true →
       t.log.hasActive .lineDown s.own none = true) ∧ t.log.rest = (raiseOwn .lineDown none none s).log.rest ∧
     (∀ p, (s.port p).st = .connected → (t.port p).st = .refused ∧ (t.port p).fifo = [] ∧
       (t.port p).flashEnd = none ∧ (t.port p).lockoutEnd = some (s.now + 60000) ∧
       ((s.port p).tone = .none → (t.port p).tone = .stateTone true (s.now + 500))) ∧
     (∀ p, (s.port p).st ≠ .connected ∧ s.ringsFor p .recall = false → (t.port p).rest = (s.port p).rest) ∧
     t.loop.loop = s.loop.loop ∧ t.loop.recallState = s.loop.recallState ∧
       t.loop.park = s.loop.park.map (fun k => { k with phase := .releasing,
                                                        expiry := if k.phase = .releasing then k.expiry else
                                                          none }) ∧
     (s.someConnected = true ∧ s.loop.loop = .closed ∧ s.loop.park = none ∧ s.loop.recallState = .none →
       t.loop.lead = some { acts := ((s.loop.lead.map Lead.acts).getD []) ++ [.loopOpen], placed := s.now,
                            stale := s.chan.noticeInFlight, sent := none } ∧
       t.chan.noticeSlot = some (mergeNotice s.chan.noticeSlot .loopOpen 3)) ∧
     (s.someConnected = false ∧ (s.loop.park.all fun k => decide (k.phase = .releasing)) = true →
       t.loop.lead = s.loop.lead ∧ t.chan.noticeSlot = s.chan.noticeSlot) ∧
     (s.loop.park = none ∧ (s.loop.loop ≠ .closed ∨ s.loop.recallState ≠ .none) →
       t.loop.lead = s.loop.lead ∧ t.chan.noticeSlot = s.chan.noticeSlot) ∧
     (s.loop.loop = .hold → (s.loop.park.any fun k => decide (k.phase ≠ .releasing)) = true → t.loop.lead = some {
           acts := ((s.loop.lead.map Lead.acts).getD []) ++ [.holdOpen], placed := s.now,
           stale := s.chan.noticeInFlight, sent := none } ∧
       t.chan.noticeSlot = some (mergeNotice s.chan.noticeSlot .loopOpen 3)) ∧ leaves [.port1, .fifo1,
       .port2, .fifo2, .ring, .survey, .line, .loop, .channel, .hold, .modem, .resp, .log] s t) ∧
  (∀ (v : Code) (s : State), LineOk s → s.ring.burst = .quiet → s.survey.stage ≠ .load →
     s.loop.recallState.breaking = false → 64 ≤ v.toNat → s.line.st = .inUse → 2 ≤ s.line.drop → s.line.drop ≤ 20 →
     ∃ t, exec (.lineSample v) s = .next t ∧
     t.line = { s.line with st := if v.toNat < 800 then .inUse else .idle,
                            useRun := if v.toNat < 800 then s.line.useRun else 0, lowRun := 0,
                            goodRun := min 40 (s.line.goodRun + 1), drop := 0 } ∧
       t.log.records = (if s.line.goodRun = 39 then s.log.records.map (fun r => if r.st = .active ∧
       r.cls = .lineDown ∧ r.origin = s.own ∧ r.qual = none then { r with
           st := .cleared, reported := false, last := s.secs } else r) else s.log.records) ∧
     (∀ p, (s.port p).st = .connected → (t.port p).st = .refused ∧ (t.port p).fifo = [] ∧
       (t.port p).flashEnd = none ∧ (t.port p).lockoutEnd = some (s.now + 60000) ∧
       ((s.port p).tone = .none → (t.port p).tone = .stateTone true (s.now + 500))) ∧
     (∀ p, (s.port p).st ≠ .connected ∧ s.ringsFor p .recall = false → (t.port p).rest = (s.port p).rest) ∧
     t.loop.loop = s.loop.loop ∧ t.loop.recallState = s.loop.recallState ∧
       t.loop.park = s.loop.park.map (fun k => { k with phase := .releasing,
                                                        expiry := if k.phase = .releasing then k.expiry else
                                                          none }) ∧
     (s.someConnected = true ∧ s.loop.loop = .closed ∧ s.loop.park = none ∧ s.loop.recallState = .none →
       t.loop.lead = some { acts := ((s.loop.lead.map Lead.acts).getD []) ++ [.loopOpen], placed := s.now,
                            stale := s.chan.noticeInFlight, sent := none } ∧
       t.chan.noticeSlot = some (mergeNotice s.chan.noticeSlot .loopOpen 3)) ∧
     (s.someConnected = false ∧ (s.loop.park.all fun k => decide (k.phase = .releasing)) = true →
       t.loop.lead = s.loop.lead ∧ t.chan.noticeSlot = s.chan.noticeSlot) ∧
     (s.loop.park = none ∧ (s.loop.loop ≠ .closed ∨ s.loop.recallState ≠ .none) →
       t.loop.lead = s.loop.lead ∧ t.chan.noticeSlot = s.chan.noticeSlot) ∧
     (s.loop.loop = .hold → (s.loop.park.any fun k => decide (k.phase ≠ .releasing)) = true → t.loop.lead = some {
           acts := ((s.loop.lead.map Lead.acts).getD []) ++ [.holdOpen], placed := s.now,
           stale := s.chan.noticeInFlight, sent := none } ∧
       t.chan.noticeSlot = some (mergeNotice s.chan.noticeSlot .loopOpen 3)) ∧ leaves [.port1, .fifo1,
       .port2, .fifo2, .ring, .survey, .line, .loop, .channel, .hold, .modem, .resp, .log] s t) ∧
  (∀ s t : State, LineOk s → step s = .next t → LineOk t)

/-- R80, R81, R82, R87, R91: the end of a lead, and of a recall break. A wish to open waits for the break's end
(assumption 12). -/
def Obligations.LeadEnd : Prop :=
  (∀ (l : Lead) (s : State), s.loop.lead = some l → LoopOk s →
     min (l.placed + 400) ((l.sent.map (· + 100)).getD (l.placed + 400)) ≤ s.now →
     ∃ t, exec .leadEnd s = .next t ∧
     t.loop.lead = none ∧
     t.loop.loop = (if s.someConnected = true ∧ s.loop.loop = .opened then .closed else
       if (s.someConnected = false ∧ s.loop.loop = .closed ∧ s.loop.recallState.breaking = false) ∨
       (s.someConnected = false ∧ (s.loop.park.any fun k => decide (k.phase = .releasing)) = true) then
       .opened else s.loop.loop) ∧
     t.loop.park = (if s.someConnected = false ∧ (s.loop.park.any fun k => decide (k.phase = .releasing)) = true
       then none else s.loop.park) ∧
     t.loop.recallState = (if .recall ∈ l.acts ∧ s.loop.recallState = .lead then
       (if s.someConnected = true ∧ s.loop.loop ≠ .hold then .brk (s.now + 100) else .none) else
       s.loop.recallState) ∧
     (.handover ∉ l.acts → t.loop.incoming = s.loop.incoming ∧ t.loop.took = s.loop.took ∧
       t.chan.callSlot = s.chan.callSlot) ∧
     leaves [.loop, .channel] s t) ∧
  (∀ (l : Lead) (r : Incoming) (p : PortId) (s : State), s.loop.lead = some l → s.loop.incoming = some r →
     r.taking = some p → LoopOk s → min (l.placed + 400) ((l.sent.map (· + 100)).getD (l.placed + 400)) ≤ s.now →
     .handover ∈ l.acts →
     ∃ t, exec .leadEnd s = .next t ∧
     t.loop.incoming = none ∧ t.loop.took = some { parker := r.parker, parkId := r.parkId,
                                                   expiry := s.now + 60000 } ∧
       t.chan.callSlot = some (.taken, r.parker, r.parkId) ∧
     (s.loop.loop = .opened → t.loop.loop = .closed) ∧ leaves [.loop, .channel] s t) ∧
  (∀ (e : Nat) (s : State), s.loop.recallState = .brk e → e ≤ s.now → s.loop.loop = .closed →
     s.someConnected = true →
     ∃ t, exec .recallBreakEnd s = .next t ∧
     t.loop = { s.loop with recallState := .none } ∧ leaves [.loop] s t) ∧
  (∀ (e : Nat) (s : State), s.loop.recallState = .brk e → e ≤ s.now → s.loop.loop = .closed →
     s.someConnected = false → s.loop.park = none →
     ∃ t, exec .recallBreakEnd s = .next t ∧
     t.loop.recallState = .none ∧ t.loop.loop = .closed ∧ t.loop.lead = some {
           acts := ((s.loop.lead.map Lead.acts).getD []) ++ [.loopOpen], placed := s.now,
           stale := s.chan.noticeInFlight, sent := none } ∧
       t.chan.noticeSlot = some (mergeNotice s.chan.noticeSlot .loopOpen 3) ∧
     leaves [.loop, .channel, .hold, .modem, .resp] s t)

/-- R83, R85, R86, R88, R89: what CALL and STATE frames bring to the loop and park unit. A STATE with both an offer
and a take is taken as the offer and then as the take (assumption 45). -/
def Obligations.TransferFrames : Prop :=
  (∀ (f : RxFrame) (rest : List RxSlot) (n k : Nat) (s : State), s.chan.slots = .delivered f :: rest →
     readCall f.body = some (.offer, n, k) → rest.any RxSlot.isProcessing = false → f.kind = .call →
     n ≠ s.own ∨ s.loop.incoming.isSome = true ∨ s.loop.loop = .hold ∨
     (s.loop.took.any fun x => decide (x.parker = f.sender ∧ x.parkId = k)) = true →
     ∃ t, exec .call s = .next t ∧
     t.loop = s.loop ∧ leaves [.peers, .channel, .hold, .modem, .log, .resp, .port1, .port2, .ring, .survey,
       .loop] s t) ∧
  (∀ (f : RxFrame) (rest : List RxSlot) (n k : Nat) (s : State), s.chan.slots = .delivered f :: rest →
     readCall f.body = some (.offer, n, k) → rest.any RxSlot.isProcessing = false → f.kind = .call →
     n = s.own → s.loop.incoming = none → s.loop.loop ≠ .hold →
     (s.loop.took.any fun x => decide (x.parker = f.sender ∧ x.parkId = k)) = false →
     ∃ t, exec .call s = .next t ∧
     t.loop.incoming = some { parker := f.sender, parkId := k, taking := none, expiry := s.now + 60000 } ∧
     (∀ p, (s.port p).st ≠ .absent → (t.ringOf p).demandTransfer = true) ∧
     (∀ p, (s.port p).st = .idle → (t.port p).st = .ringing ∧ (t.port p).cause = some .transfer ∧
       (t.ringOf p).mode = .pattern .transfer 0 true (s.now + 400) ∧ (t.ringOf p).gateSince = some s.now ∧
       (t.ringOf p).cut = false) ∧
     t.loop.loop = s.loop.loop ∧ t.loop.park = s.loop.park ∧ t.loop.took = s.loop.took ∧ t.loop.lead = s.loop.lead ∧
     leaves [.peers, .channel, .hold, .modem, .log, .resp, .port1, .port2, .ring, .survey, .loop] s t) ∧
  (∀ (f : RxFrame) (rest : List RxSlot) (n k : Nat) (r : Incoming) (s : State),
     s.chan.slots = .delivered f :: rest → readCall f.body = some (.withdrawn, n, k) →
     s.loop.incoming = some r → rest.any RxSlot.isProcessing = false → f.kind = .call → n = s.own →
     r.taking = none → r.parker = f.sender → r.parkId = k →
     ∃ t, exec .call s = .next t ∧
     t.loop.incoming = none ∧ (∀ p, (t.ringOf p).demandTransfer = false ∧ t.ringsFor p .transfer = false) ∧
       (∀ p, s.ringsFor p .transfer = true ∧ (s.ringOf p).demandRecall = false →
       (t.port p).st = .idle) ∧ t.loop.loop = s.loop.loop ∧ t.loop.park = s.loop.park ∧leaves [.peers,
       .channel, .hold, .modem, .log, .resp, .port1, .port2, .ring, .survey, .loop] s t) ∧
  (∀ (f : RxFrame) (rest : List RxSlot) (n k : Nat) (s : State), s.chan.slots = .delivered f :: rest →
     readCall f.body = some (.withdrawn, n, k) → rest.any RxSlot.isProcessing = false → f.kind = .call →
     n ≠ s.own ∨ s.loop.incoming.any (fun r => decide (r.taking = none ∧ r.parker = f.sender ∧
     r.parkId = k)) = false →
     ∃ t, exec .call s = .next t ∧
     t.loop = s.loop ∧ leaves [.peers, .channel, .hold, .modem, .log, .resp, .port1, .port2, .ring, .survey,
       .loop] s t) ∧
  (∀ (f : RxFrame) (rest : List RxSlot) (n i : Nat) (k : Park) (s : State),
     s.chan.slots = .delivered f :: rest → readCall f.body = some (.taken, n, i) → s.loop.park = some k →
     rest.any RxSlot.isProcessing = false → f.kind = .call → n = s.own → k.target = f.sender → k.parkId = i →
     ∃ t, exec .call s = .next t ∧
     t.loop.park = none ∧ t.loop.loop = (if s.loop.loop = .hold then .opened else s.loop.loop) ∧
       (k.phase = .recalling → (t.ringOf k.port).demandRecall = false ∧
       t.ringsFor k.port .recall = false) ∧leaves [.peers, .channel, .hold, .modem, .log, .resp, .port1,
       .port2, .ring, .survey, .loop] s t) ∧
  (∀ (f : RxFrame) (rest : List RxSlot) (n k : Nat) (s : State), s.chan.slots = .delivered f :: rest →
     readCall f.body = some (.taken, n, k) → rest.any RxSlot.isProcessing = false → f.kind = .call →
     n ≠ s.own ∨ s.loop.park.any (fun x => decide (x.target = f.sender ∧ x.parkId = k)) = false →
     ∃ t, exec .call s = .next t ∧
     t.loop = s.loop ∧ leaves [.peers, .channel, .hold, .modem, .log, .resp, .port1, .port2, .ring, .survey,
       .loop] s t) ∧
  (∀ (f : RxFrame) (rest : List RxSlot) (s : State), s.chan.slots = .delivered f :: rest →
     readCall f.body = none → rest.any RxSlot.isProcessing = false → f.kind = .call →
     ∃ t, exec .call s = .next t ∧
     t.loop = s.loop ∧ leaves [.peers, .channel, .hold, .modem, .log, .resp, .port1, .port2, .ring, .survey,
       .loop] s t) ∧
  (∀ (f : RxFrame) (rest : List RxSlot) (n k : Nat) (s : State), s.chan.slots = .delivered f :: rest →
     (readState f.body).offer = some (n, k) → rest.any RxSlot.isProcessing = false → f.kind = .state →
     n = s.own → ((readState f.body).took.any fun y => decide (y.1 = s.own) && s.loop.park.any fun x => decide
     (x.target = f.sender ∧ x.parkId = y.2)) = false → s.loop.incoming = none →
     s.loop.loop ≠ .hold → (s.loop.took.any fun x => decide (x.parker = f.sender ∧ x.parkId = k)) = false →
     ∃ t, exec .state s = .next t ∧
     t.loop.incoming = some { parker := f.sender, parkId := k, taking := none, expiry := s.now + 60000 } ∧
     (∀ p, (s.port p).st ≠ .absent → (t.ringOf p).demandTransfer = true) ∧
     (∀ p, (s.port p).st = .idle → (t.port p).st = .ringing ∧ (t.port p).cause = some .transfer ∧
       (t.ringOf p).mode = .pattern .transfer 0 true (s.now + 400) ∧ (t.ringOf p).gateSince = some s.now ∧
       (t.ringOf p).cut = false) ∧
     t.loop.loop = s.loop.loop ∧ t.loop.park = s.loop.park ∧
       t.loop.took = (if (s.loop.took.any fun x => decide (x.parker = f.sender ∧
       (readState f.body).offer ≠ some (s.own, x.parkId))) = true then none else s.loop.took) ∧
       t.loop.lead = s.loop.lead ∧
     leaves [.peers, .channel, .hold, .modem, .log, .resp, .port1, .port2, .ring, .survey, .time, .loop] s t) ∧
  (∀ (f : RxFrame) (rest : List RxSlot) (n k : Nat) (s : State), s.chan.slots = .delivered f :: rest →
     (readState f.body).offer = some (n, k) → rest.any RxSlot.isProcessing = false → f.kind = .state →
     ((readState f.body).took.any fun y => decide (y.1 = s.own) && s.loop.park.any fun x => decide (x.target =
     f.sender ∧ x.parkId = y.2)) = false → n ≠ s.own ∨ s.loop.incoming.isSome = true ∨
     s.loop.loop = .hold ∨ (s.loop.took.any fun x => decide (x.parker = f.sender ∧
     x.parkId = k)) = true → (s.loop.incoming.any fun r => decide (r.taking = none ∧
     r.parker = f.sender ∧ (readState f.body).offer ≠ some (s.own, r.parkId))) = false →
     ∃ t, exec .state s = .next t ∧
     t.loop = { s.loop with took := (if (s.loop.took.any fun x => decide (x.parker = f.sender ∧
                              (readState f.body).offer ≠ some (s.own, x.parkId))) = true then none else
                              s.loop.took) } ∧ (∀ p, (t.ringOf p).demandTransfer = (s.ringOf p).demandTransfer) ∧
       leaves [.peers, .channel, .hold, .modem, .log, .resp, .port1, .port2, .ring, .survey, .time, .loop] s t) ∧
  (∀ (f : RxFrame) (rest : List RxSlot) (n k : Nat) (r : Incoming) (s : State),
     s.chan.slots = .delivered f :: rest → (readState f.body).offer = some (n, k) →
     s.loop.incoming = some r → rest.any RxSlot.isProcessing = false → f.kind = .state →
     ((readState f.body).took.any fun y => decide (y.1 = s.own) && s.loop.park.any fun x => decide (x.target =
     f.sender ∧ x.parkId = y.2)) = false → r.taking = none → r.parker = f.sender → n ≠ s.own ∨
     (k ≠ r.parkId ∧ (s.loop.loop = .hold ∨ (s.loop.took.any fun x => decide (x.parker = f.sender ∧
     x.parkId = k)) = true)) →
     ∃ t, exec .state s = .next t ∧
     t.loop.incoming = none ∧ (∀ p, (t.ringOf p).demandTransfer = false ∧ t.ringsFor p .transfer = false) ∧
       (∀ p, s.ringsFor p .transfer = true ∧ (s.ringOf p).demandRecall = false →
       (t.port p).st = .idle) ∧ t.loop.loop = s.loop.loop ∧ t.loop.park = s.loop.park ∧
       t.loop.took = (if (s.loop.took.any fun x => decide (x.parker = f.sender ∧
       (readState f.body).offer ≠ some (s.own, x.parkId))) = true then none else s.loop.took) ∧
       leaves [.peers, .channel, .hold, .modem, .log, .resp, .port1, .port2, .ring, .survey, .time, .loop] s t) ∧
  (∀ (f : RxFrame) (rest : List RxSlot) (n k : Nat) (r : Incoming) (s : State),
     s.chan.slots = .delivered f :: rest → (readState f.body).offer = some (n, k) →
     s.loop.incoming = some r → rest.any RxSlot.isProcessing = false → f.kind = .state →
     ((readState f.body).took.any fun y => decide (y.1 = s.own) && s.loop.park.any fun x => decide (x.target =
     f.sender ∧ x.parkId = y.2)) = false → r.taking = none → r.parker = f.sender → n = s.own →
     k ≠ r.parkId → s.loop.loop ≠ .hold → (s.loop.took.any fun x => decide (x.parker = f.sender ∧
     x.parkId = k)) = false →
     ∃ t, exec .state s = .next t ∧
     t.loop.incoming = some { parker := f.sender, parkId := k, taking := none, expiry := s.now + 60000 } ∧
     (∀ p, (s.port p).st ≠ .absent → (t.ringOf p).demandTransfer = true) ∧
     (∀ p, (s.port p).st = .idle ∨ (s.ringsFor p .transfer = true ∧ (s.ringOf p).demandRecall = false) →
       (t.port p).st = .ringing ∧ (t.port p).cause = some .transfer ∧
       (t.ringOf p).mode = .pattern .transfer 0 true (s.now + 400) ∧ (t.ringOf p).gateSince = some s.now ∧
       (t.ringOf p).cut = false) ∧
     t.loop.loop = s.loop.loop ∧ t.loop.park = s.loop.park ∧
       t.loop.took = (if (s.loop.took.any fun x => decide (x.parker = f.sender ∧
       (readState f.body).offer ≠ some (s.own, x.parkId))) = true then none else s.loop.took) ∧
       t.loop.lead = s.loop.lead ∧
     leaves [.peers, .channel, .hold, .modem, .log, .resp, .port1, .port2, .ring, .survey, .time, .loop] s t) ∧
  (∀ (f : RxFrame) (rest : List RxSlot) (r : Incoming) (s : State),
     s.chan.slots = .delivered f :: rest → s.loop.incoming = some r → rest.any RxSlot.isProcessing = false →
     f.kind = .state → (readState f.body).offer = none →
     ((readState f.body).took.any fun y => decide (y.1 = s.own) && s.loop.park.any fun x => decide (x.target =
     f.sender ∧ x.parkId = y.2)) = false → r.taking = none → r.parker = f.sender →
     ∃ t, exec .state s = .next t ∧
     t.loop.incoming = none ∧ (∀ p, (t.ringOf p).demandTransfer = false ∧ t.ringsFor p .transfer = false) ∧
       (∀ p, s.ringsFor p .transfer = true ∧ (s.ringOf p).demandRecall = false →
       (t.port p).st = .idle) ∧ t.loop.loop = s.loop.loop ∧ t.loop.park = s.loop.park ∧
       t.loop.took = (if (s.loop.took.any fun x => decide (x.parker = f.sender ∧
       (readState f.body).offer ≠ some (s.own, x.parkId))) = true then none else s.loop.took) ∧
       leaves [.peers, .channel, .hold, .modem, .log, .resp, .port1, .port2, .ring, .survey, .time, .loop] s t) ∧
  (∀ (f : RxFrame) (rest : List RxSlot) (s : State), s.chan.slots = .delivered f :: rest →
     rest.any RxSlot.isProcessing = false → f.kind = .state → (readState f.body).offer = none →
     ((readState f.body).took.any fun y => decide (y.1 = s.own) && s.loop.park.any fun x => decide (x.target =
     f.sender ∧ x.parkId = y.2)) = false → (s.loop.incoming.any fun r => decide (r.taking = none ∧
     r.parker = f.sender ∧ (readState f.body).offer ≠ some (s.own, r.parkId))) = false →
     ∃ t, exec .state s = .next t ∧
     t.loop = { s.loop with took := (if (s.loop.took.any fun x => decide (x.parker = f.sender ∧
                              (readState f.body).offer ≠ some (s.own, x.parkId))) = true then none else
                              s.loop.took) } ∧ (∀ p, (t.ringOf p).demandTransfer = (s.ringOf p).demandTransfer) ∧
       leaves [.peers, .channel, .hold, .modem, .log, .resp, .port1, .port2, .ring, .survey, .time, .loop] s t) ∧
  (∀ (f : RxFrame) (rest : List RxSlot) (n i : Nat) (k : Park) (s : State),
     s.chan.slots = .delivered f :: rest → (readState f.body).took = some (n, i) → s.loop.park = some k →
     rest.any RxSlot.isProcessing = false → f.kind = .state → n = s.own → k.target = f.sender → k.parkId = i →
     ∃ t, exec .state s = .next t ∧
     t.loop.park = none ∧ t.loop.loop = (if s.loop.loop = .hold then .opened else s.loop.loop) ∧
       (k.phase = .recalling → (t.ringOf k.port).demandRecall = false ∧ t.ringsFor k.port .recall = false) ∧
     (s.loop.loop = .hold → t.loop.took = (if (s.loop.took.any fun x => decide (x.parker = f.sender ∧
       (readState f.body).offer ≠ some (s.own, x.parkId))) = true then none else s.loop.took) ∧
       t.loop.incoming = if (s.loop.incoming.any fun r => decide (r.taking = none ∧ r.parker = f.sender ∧
       (readState f.body).offer ≠ some (s.own, r.parkId))) = true then none else s.loop.incoming) ∧
       leaves [.peers, .channel, .hold, .modem, .log, .resp, .port1, .port2, .ring, .survey, .time, .loop] s t)

/-- R85, R86, R88, R90, R91: the expiries of a park record, an incoming record and a took-transfer mark. -/
def Obligations.TransferExpiries : Prop :=
  (∀ (k : Park) (e : Nat) (s : State), s.loop.park = some k → k.expiry = some e → k.phase = .offered →
     e ≤ s.now → (s.port k.port).st = .refused →
     ∃ t, exec .parkOfferExpiry s = .next t ∧
     t.chan.callSlot = some (.withdrawn, k.target, k.parkId) ∧ (t.port k.port).st = .connected ∧
       (t.port k.port).lockoutEnd = none ∧ (t.port k.port).fifo = [] ∧ (t.port k.port).flashEnd = none ∧
     t.loop.park = none ∧ t.loop.loop = (if s.loop.loop = .hold then .closed else s.loop.loop) ∧
       t.loop.lead = s.loop.lead ∧
     leaves [portPart k.port, fifoPart k.port, .loop, .channel] s t) ∧
  (∀ (k : Park) (e : Nat) (s : State), s.loop.park = some k → k.expiry = some e → k.phase = .offered →
     e ≤ s.now → (s.port k.port).st ≠ .refused → (s.port k.port).st ≠ .absent →
     ∃ t, exec .parkOfferExpiry s = .next t ∧
     t.chan.callSlot = some (.withdrawn, k.target, k.parkId) ∧ t.loop = { s.loop with
           park := some { k with phase := .recalling, expiry := some (s.now + 30000) } } ∧
     (t.ringOf k.port).demandRecall = true ∧
     ((s.port k.port).st = .idle → (t.port k.port).st = .ringing ∧ (t.port k.port).cause = some .recall ∧
       (t.ringOf k.port).mode = .pattern .recall 0 true (s.now + 200) ∧ (t.ringOf k.port).gateSince = some s.now) ∧
     leaves [portPart k.port, .ring, .survey, .loop, .channel] s t) ∧
  (∀ (k : Park) (e : Nat) (s : State), s.loop.park = some k → k.expiry = some e → k.phase = .recalling → e ≤ s.now →
     ∃ t, exec .recallingExpiry s = .next t ∧
     t.loop.park = some { k with phase := .releasing, expiry := none } ∧ t.loop.loop = s.loop.loop ∧
       t.loop.lead = some { acts := ((s.loop.lead.map Lead.acts).getD []) ++ [.holdOpen], placed := s.now,
                            stale := s.chan.noticeInFlight, sent := none } ∧
       t.chan.noticeSlot = some (mergeNotice s.chan.noticeSlot .loopOpen 3) ∧
     (t.ringOf k.port).demandRecall = false ∧ t.ringsFor k.port .recall = false ∧
       t.chan.callSlot = s.chan.callSlot ∧
     leaves [portPart k.port, .ring, .survey, .loop, .channel, .hold, .modem, .resp] s t) ∧
  (∀ (r : Incoming) (s : State), s.loop.incoming = some r → r.taking = none → r.expiry ≤ s.now →
     ∃ t, exec .incomingTransferExpiry s = .next t ∧
     t.loop = { s.loop with incoming := none } ∧ (∀ p, (t.ringOf p).demandTransfer = false ∧
       t.ringsFor p .transfer = false) ∧
     leaves [.port1, .port2, .ring, .survey, .loop] s t) ∧
  (∀ (x : Took) (s : State), s.loop.took = some x → x.expiry ≤ s.now →
     ∃ t, exec .tookTransferExpiry s = .next t ∧
     t.loop = { s.loop with took := none } ∧ leaves [.loop] s t)

/-! ### Time keeping (06) -/

/-- R93, R95, R96, R98, R122: the day clock's advance, and a clock carried by a STATE. -/
def Obligations.ClockAdvanceAndAdoption : Prop :=
  (∀ (s : State), Settled s → s.time.secTaken < s.time.uptime / 1000 → s.time.clock = none →
     exec .dayClockAdvance s =
       .next (s.onTime fun k => { k with secTaken := k.secTaken + 1 })) ∧
  (∀ (c : DayClock) (s : State), s.time.clock = some c → ClockOk s → s.time.secTaken < s.time.uptime / 1000 →
     ∃ t, exec .dayClockAdvance s = .next t ∧
     t.time = { s.time with secTaken := s.time.secTaken + 1, clock := some (if c.second < 59 then { c with
                              second := c.second + 1 } else if c.minute < 59 then { c with
                              second := 0, minute := c.minute + 1 } else if c.hour < 23 then { c with
                              second := 0, minute := 0, hour := c.hour + 1 } else if c.day < [31, 29, 31, 30,
                            31, 30, 31, 31, 30, 31, 30, 31].getD (c.month - 1) 0 then { c with
                              second := 0, minute := 0, hour := 0, day := c.day + 1 } else if c.month < 12 then
                              { c with second := 0, minute := 0, hour := 0, day := 1, month := c.month + 1 } else
                              { c with second := 0, minute := 0, hour := 0, day := 1, month := 1 } : DayClock) } ∧
     t.hold = (if s.isModem = true ∧ c.second = 59 ∧ c.minute = 59 ∧ c.hour ≠ 1 ∧ c.hour ≠ 2 then { s.hold with
           nightMark := false } else s.hold) ∧ leaves [.time, .hold] s t) ∧
  (∀ (f : RxFrame) (rest : List RxSlot) (k : CarriedClock) (s : State),
     s.chan.slots = .delivered f :: rest → (readState f.body).clock = some k →
     rest.any RxSlot.isProcessing = false → f.kind = .state → ¬ (1 ≤ k.month ∧ k.month ≤ 12 ∧ 1 ≤ k.day ∧
     k.day ≤ [31, 29, 31, 30, 31, 30, 31, 31, 30, 31, 30, 31].getD (k.month - 1) 0 ∧ k.hour ≤ 23 ∧
     k.minute ≤ 59 ∧ (k.quality = 1 ∨ k.quality = 2)) ∨
     (s.time.clock.any fun c => decide (c.quality = .caller)) = true →
     ∃ t, exec .state s = .next t ∧
     t.time = s.time ∧ leaves [.peers, .channel, .hold, .modem, .log, .resp, .port1, .port2, .ring, .survey,
       .time, .loop] s t) ∧
  (∀ (f : RxFrame) (rest : List RxSlot) (k : CarriedClock) (s : State),
     s.chan.slots = .delivered f :: rest → (readState f.body).clock = some k →
     rest.any RxSlot.isProcessing = false → f.kind = .state → (1 ≤ k.month ∧ k.month ≤ 12 ∧ 1 ≤ k.day ∧
     k.day ≤ [31, 29, 31, 30, 31, 30, 31, 31, 30, 31, 30, 31].getD (k.month - 1) 0 ∧ k.hour ≤ 23 ∧
     k.minute ≤ 59 ∧ (k.quality = 1 ∨ k.quality = 2)) → s.time.clock = none →
     ∃ t, exec .state s = .next t ∧
     t.time = { s.time with clock := some { quality := .peer, month := k.month, day := k.day, hour := k.hour,
                                            minute := k.minute, second := 0 } } ∧ leaves [.peers, .channel,
       .hold, .modem, .log, .resp, .port1, .port2, .ring, .survey, .time, .loop] s t) ∧
  (∀ (f : RxFrame) (rest : List RxSlot) (k : CarriedClock) (c : DayClock) (s : State),
     s.chan.slots = .delivered f :: rest → (readState f.body).clock = some k → s.time.clock = some c →
     rest.any RxSlot.isProcessing = false → f.kind = .state → (1 ≤ k.month ∧ k.month ≤ 12 ∧ 1 ≤ k.day ∧
     k.day ≤ [31, 29, 31, 30, 31, 30, 31, 31, 30, 31, 30, 31].getD (k.month - 1) 0 ∧ k.hour ≤ 23 ∧
     k.minute ≤ 59 ∧ (k.quality = 1 ∨ k.quality = 2)) → c.quality = .peer →
     ∃ t, exec .state s = .next t ∧
     t.time = { s.time with clock := if k.quality = 1 ∧ ¬ (k.month = c.month ∧ k.day = c.day ∧
                              k.hour = c.hour ∧ k.minute = c.minute) then some {
                              quality := .peer, month := k.month, day := k.day, hour := k.hour,
                              minute := k.minute, second := 0 } else s.time.clock } ∧ leaves [.peers,
       .channel, .hold, .modem, .log, .resp, .port1, .port2, .ring, .survey, .time, .loop] s t) ∧
  (∀ s t : State, ClockOk s → step s = .next t → ClockOk t) ∧
  (∀ s : State, ClockOk s ↔ ∀ c, s.time.clock = some c → 1 ≤ c.month ∧ c.month ≤ 12 ∧ 1 ≤ c.day ∧ c.day ≤ [31,
     29, 31, 30, 31, 30, 31, 31, 30, 31, 30, 31].getD (c.month - 1) 0 ∧ c.hour ≤ 23 ∧ c.minute ≤ 59 ∧ c.second ≤ 59)

/-! ### The modem port and the holding controller (07) -/

/-- R102, R104, R106, R169, R172: the take of the slot's command, and the take deadline. That a TRAIN or STEP taken
outside TRAINING leaves the mark that the training is under way as it was is read by inference (assumption 36). A
RESTART answer's take is StationRestart's. -/
def Obligations.CommandTakeAndDeadline : Prop :=
  (∀ (x : CommandSlot) (s : State), s.modem.slot = some x → s.isModem = true → x.cmd.isTrain = true →
     ∃ t, exec .commandTake s = .next t ∧
     t.modem.queue = s.modem.queue.tail ∧ t.modem.slot = s.modem.queue.head?.map (fun c => {
           cmd := c, waiting := true, deadline := s.now + 2000 }) ∧
       t.log.hasActive .modemSilent s.own none = false ∧ t.log.rest = ({ s.log with
           records := s.log.records.map fun r => if r.st = .active ∧ r.cls = .modemSilent ∧
             r.origin = s.own ∧ r.qual = none then { r with st := .cleared, reported := false,
                                                            last := s.secs } else r } : FaultLog).rest ∧
       t.hold = { s.hold with underWay := if s.hold.role = .training then true else s.hold.underWay } ∧
     leaves [.modem, .hold, .log] s t) ∧
  (∀ (x : CommandSlot) (s : State), s.modem.slot = some x → s.isModem = true → x.cmd = .drop ∨
     x.cmd.isBrace = true →
     ∃ t, exec .commandTake s = .next t ∧
     t.modem.queue = s.modem.queue.tail ∧ t.modem.slot = s.modem.queue.head?.map (fun c => {
           cmd := c, waiting := true, deadline := s.now + 2000 }) ∧
       t.log.hasActive .modemSilent s.own none = false ∧ t.log.rest = ({ s.log with
           records := s.log.records.map fun r => if r.st = .active ∧ r.cls = .modemSilent ∧
             r.origin = s.own ∧ r.qual = none then { r with st := .cleared, reported := false,
                                                            last := s.secs } else r } : FaultLog).rest ∧
       leaves [.modem, .log] s t) ∧
  (∀ (x : CommandSlot) (s : State), s.modem.slot = some x → s.isModem = true →
     x.cmd.isRespond = true → s.resp.outstanding.any (fun o => decide (o.code = 6)) = false →
     ∃ t, exec .commandTake s = .next t ∧
     t.modem.queue = s.modem.queue.tail ∧ t.modem.slot = s.modem.queue.head?.map (fun c => {
           cmd := c, waiting := true, deadline := s.now + 2000 }) ∧
       t.log.hasActive .modemSilent s.own none = false ∧
     t.resp = { s.resp with outstanding := none, pendingMark := none } ∧
     t.log.records.length = s.log.records.length ∧ t.log.records.all (fun r => r.reported || decide
       (s.resp.pendingMark ≠ some (r.seq, r.st))) = true ∧
     t.log.rest = ({ s.log with records := s.log.records.map fun r =>
       let q := if r.st = .active ∧ r.cls = .modemSilent ∧ r.origin = s.own ∧ r.qual = none then { r with
                                  st := .cleared, reported := false, last := s.secs } else r
       if s.resp.pendingMark = some (q.seq, q.st) then { q with reported := true } else q } : FaultLog).rest ∧
     leaves [.modem, .log, .resp] s t) ∧
  (∀ (x : CommandSlot) (s : State), s.modem.slot = some x → s.isModem = true → x.deadline ≤ s.now →
     ∃ t, exec .takeDeadlineExpiry s = .next t ∧
     t.modem.slot = none ∧ t.modem.queue = [] ∧ t.modem.link = .down ∧ (s.log.records.length < 32 ∨
       s.log.hasActive .modemSilent s.own none = true → t.log.hasActive .modemSilent s.own none = true) ∧
     t.log.rest = (if s.hold.role = .holding then raiseOwn .linkLost none (some s.hold.level) (raiseOwn .modemSilent
       none none s) else raiseOwn .modemSilent none none s).log.rest ∧
     t.hold.role = (if s.hold.role = .holding ∨ s.hold.role = .training then .recovering else s.hold.role) ∧
     (s.hold.role ≠ .holding ∧ s.hold.role ≠ .training → t.hold = s.hold) ∧
     (s.hold.role = .training → t.hold.retrainEnd = some (s.now + 2000) ∧ t.hold.level = s.hold.level) ∧
     (s.hold.role = .holding → t.hold.retrainEnd = some ((s.hold.window.map fun w => w.ends + 1000).getD (s.now +
       2000))) ∧
     (x.cmd.isRespond = true ∨ s.modem.queue.any Command.isRespond = true →
       t.resp.outstanding = none ∧ t.resp.pendingMark = none) ∧
     leaves [.modem, .hold, .log, .resp] s t)

/-- R105, R109, R113, R114, R115, R121, R123, R126, R168, R169: status reports, the fall of LINK_UP, and requests. The
UP that ends a training carries no margin sample (assumption 28). That LINK_UP follows the reports and its fall, and
that REQUEST_WAITING is lowered by the fetch, are the model's (assumption 24). -/
def Obligations.ModemReports : Prop :=
  (∀ (k l : Byte) (m : Half) (s : State), s.isModem = true → s.hold.role = .training →
     s.hold.underWay = true → k.toNat = 2 →
     ∃ t, exec (.statusReport k l m) s = .next t ∧
     t.modem.level = some (min 8 (max 1 l.toNat)) ∧ t.modem.linkUp = true ∧t.hold.role = .holding ∧
       t.hold.level = min s.profile.maxLevel (max 1 (min 8 (max 1 l.toNat))) ∧
       t.hold.upSince = some s.now ∧ t.hold.s16 = none ∧ t.log.hasActive .linkLost s.own none = false ∧
       t.log.rest = (clearOwn .linkLost none (if s.hold.role = .resting then
       clearOwn .retrainRest none s else s)).log.rest ∧ t.modem.link = .up ∧
     t.hold.watch = (if s.hold.stepLevel.isSome = true then some {
           expiry := s.now + 600000, earlier := s.hold.stepEarlier.getD s.hold.level } else s.hold.watch) ∧
       leaves [.modem, .hold, .log, .resp, .survey] s t) ∧
  (∀ (k l : Byte) (m : Half) (s : State), s.isModem = true → s.hold.role = .training →
     s.hold.underWay = true → linkOf k.toNat = .down →
     ∃ t, exec (.statusReport k l m) s = .next t ∧
     t.modem.level = some (min 8 (max 1 l.toNat)) ∧ t.modem.linkUp = false ∧
     t.hold.role = .recovering ∧ t.hold.retrainEnd = some (s.now + 2000) ∧
       t.hold.level = (if s.hold.stepLevel.isSome = true then s.hold.level else
       max 1 (s.hold.level - 1)) ∧ t.log.rest = s.log.rest ∧ leaves [.modem, .hold, .log, .resp, .survey] s t) ∧
  (∀ (k l : Byte) (m : Half) (s : State), s.isModem = true → s.hold.role = .holding → linkOf k.toNat ≠ .up →
     ∃ t, exec (.statusReport k l m) s = .next t ∧
     t.modem.level = some (min 8 (max 1 l.toNat)) ∧ t.modem.linkUp = false ∧
     t.hold.role = .recovering ∧ t.hold.window = none ∧ t.hold.s16 = none ∧ t.hold.watch = none ∧
       t.hold.upSince = none ∧ t.modem.braced = false ∧
     t.hold.retrainEnd = some ((s.hold.window.map fun w => w.ends + 1000).getD (s.now + 2000)) ∧
     t.hold.level = (s.hold.watch.map StepWatch.earlier).getD (if s.hold.window = none ∧
       s.hold.s16.any (fun x => decide ((x + 8) / 16 < 30)) = true then max 1 (s.hold.level - 1) else
       s.hold.level) ∧
     (s.log.records.length < 32 ∨ s.log.hasActive .linkLost s.own none = true →
       t.log.hasActive .linkLost s.own none = true) ∧
       t.log.rest = (raiseOwn .linkLost none (some s.hold.level) s).log.rest ∧leaves [.modem, .hold, .log,
       .resp, .survey] s t) ∧
  (∀ (s : State), s.isModem = true → s.hold.role = .holding → s.modem.link = .up →
     ∃ t, exec .linkUpFall s = .next t ∧
     t.modem.linkUp = false ∧ t.modem.link = .down ∧
     t.hold.role = .recovering ∧ t.hold.window = none ∧ t.hold.s16 = none ∧ t.hold.watch = none ∧
       t.hold.upSince = none ∧ t.modem.braced = false ∧
     t.hold.retrainEnd = some ((s.hold.window.map fun w => w.ends + 1000).getD (s.now + 2000)) ∧
     t.hold.level = (s.hold.watch.map StepWatch.earlier).getD (if s.hold.window = none ∧
       s.hold.s16.any (fun x => decide ((x + 8) / 16 < 30)) = true then max 1 (s.hold.level - 1) else
       s.hold.level) ∧
     (s.log.records.length < 32 ∨ s.log.hasActive .linkLost s.own none = true →
       t.log.hasActive .linkLost s.own none = true) ∧
       t.log.rest = (raiseOwn .linkLost none (some s.hold.level) s).log.rest ∧leaves [.modem, .hold, .log,
       .resp, .survey] s t) ∧
  (∀ (k l : Byte) (m : Half) (s : State), s.isModem = true → s.hold.role = .holding → k.toNat = 2 →
     s.hold.watch = none → s.hold.nightMark = true →
     ∃ t, exec (.statusReport k l m) s = .next t ∧
     t.modem.level = some (min 8 (max 1 l.toNat)) ∧ t.modem.linkUp = true ∧
     t.hold = { s.hold with s16 := some ((s.hold.s16.map fun x => ((x : Int) + ((16 * min 400 m.toNat : Int) -
                              x).tdiv 8).toNat).getD (16 * min 400 m.toNat)) } ∧ leaves [.modem, .hold] s t) ∧
  (∀ (k l : Byte) (m : Half) (s : State), s.isModem = true → s.hold.role = .holding → k.toNat = 2 →
     s.hold.watch.all (fun _ => decide (30 ≤ (((s.hold.s16.map fun x => ((x : Int) + ((16 * min 400 m.toNat : Int) -
     x).tdiv 8).toNat).getD (16 * min 400 m.toNat)) + 8) / 16)) = true → s.hold.window ≠ none ∨
     s.profile.maxLevel ≤ s.hold.level ∨ s.hold.upSince.all (fun u => decide (s.now < u + 21600000)) = true ∨
     (((s.hold.s16.map fun x => ((x : Int) + ((16 * min 400 m.toNat : Int) - x).tdiv 8).toNat).getD (16 * min 400
     m.toNat)) + 8) / 16 < 90 ∨ s.time.clock.all (fun c => decide (c.hour ≠ 2 ∧
     c.hour ≠ 3)) = true ∨ s.hold.nightMark = true ∨ s.profile.retrainBudget ≤ s.hold.history.length + 1 ∨
     s.port1.st = .connected ∨ s.port1.st = .loc ∨ s.port2.st = .connected ∨ s.port2.st = .loc ∨
     s.peerInUse = true ∨ s.survey.stage.measuring = true →
     ∃ t, exec (.statusReport k l m) s = .next t ∧
     t.modem.level = some (min 8 (max 1 l.toNat)) ∧ t.modem.linkUp = true ∧
     t.hold = { s.hold with s16 := some ((s.hold.s16.map fun x => ((x : Int) + ((16 * min 400 m.toNat : Int) -
                              x).tdiv 8).toNat).getD (16 * min 400 m.toNat)) } ∧ leaves [.modem, .hold] s t) ∧
  (∀ (k l : Byte) (m : Half) (w : StepWatch) (s : State), s.hold.watch = some w → s.isModem = true →
     s.hold.role = .holding → k.toNat = 2 → (((s.hold.s16.map fun x => ((x : Int) + ((16 * min 400 m.toNat : Int) -
     x).tdiv 8).toNat).getD (16 * min 400 m.toNat)) + 8) / 16 < 30 →
     ∃ t, exec (.statusReport k l m) s = .next t ∧
     t.modem.level = some (min 8 (max 1 l.toNat)) ∧ t.modem.linkUp = true ∧
     t.hold.role = .training ∧ t.hold.level = w.earlier ∧ t.hold.stepLevel = none ∧
       t.hold.history = s.hold.history ++ [s.secs] ∧ t.hold.trainingEnd = some (s.now + 120000) ∧
       t.hold.underWay = false ∧ t.hold.watch = none ∧
     (.train w.earlier ∈ t.modem.queue ∨ t.modem.slot.map CommandSlot.cmd = some (.train w.earlier)) ∧
       t.log.rest = s.log.rest ∧ leaves [.modem, .hold, .log, .resp, .survey] s t) ∧
  (∀ (k l : Byte) (m : Half) (c : DayClock) (u : Nat) (s : State), s.time.clock = some c →
     s.hold.upSince = some u → s.isModem = true → s.hold.role = .holding → k.toNat = 2 →
     s.hold.watch = none → s.hold.window = none → s.hold.level < s.profile.maxLevel → u + 21600000 ≤ s.now →
     90 ≤ (((s.hold.s16.map fun x => ((x : Int) + ((16 * min 400 m.toNat : Int) - x).tdiv 8).toNat).getD (16 * min
     400 m.toNat)) + 8) / 16 → c.hour = 2 ∨ c.hour = 3 → s.hold.nightMark = false →
     s.hold.history.length + 1 < s.profile.retrainBudget → s.port1.st ≠ .connected → s.port1.st ≠ .loc →
     s.port2.st ≠ .connected → s.port2.st ≠ .loc → s.peerInUse = false → s.survey.stage.measuring = false →
     ∃ t, exec (.statusReport k l m) s = .next t ∧
     t.modem.level = some (min 8 (max 1 l.toNat)) ∧ t.modem.linkUp = true ∧
     t.hold.role = .training ∧ t.hold.level = s.hold.level ∧
       t.hold.stepLevel = some (s.hold.level + 1) ∧ t.hold.stepEarlier = some s.hold.level ∧
       t.hold.nightMark = true ∧ t.hold.history = s.hold.history ++ [s.secs] ∧
       t.hold.trainingEnd = some (s.now + 120000) ∧ t.hold.underWay = false ∧
     (.step (s.hold.level + 1) ∈ t.modem.queue ∨ t.modem.slot.map CommandSlot.cmd = some (.step (s.hold.level + 1)))
       ∧ t.log.rest = s.log.rest ∧ leaves [.modem, .hold, .log, .resp, .survey] s t) ∧
  (∀ (k l : Byte) (m : Half) (s : State), s.isModem = true → s.hold.role = .recovering ∨
     s.hold.role = .resting → s.modem.link ≠ .up → k.toNat = 2 →
     ∃ t, exec (.statusReport k l m) s = .next t ∧
     t.modem.level = some (min 8 (max 1 l.toNat)) ∧ t.modem.linkUp = true ∧t.hold.role = .holding ∧
       t.hold.level = min s.profile.maxLevel (max 1 (min 8 (max 1 l.toNat))) ∧
       t.hold.upSince = some s.now ∧ t.hold.s16 = none ∧ t.log.hasActive .linkLost s.own none = false ∧
       t.log.rest = (clearOwn .linkLost none (if s.hold.role = .resting then
       clearOwn .retrainRest none s else s)).log.rest ∧ t.modem.link = .up ∧leaves [.modem, .hold, .log,
       .resp, .survey] s t) ∧
  (∀ (k l : Byte) (m : Half) (s : State), s.isModem = true → s.hold.role = .quiet ∨
     s.hold.role = .standby → s.modem.link ≠ .up → k.toNat = 2 →
     ∃ t, exec (.statusReport k l m) s = .next t ∧
     t.modem.level = some (min 8 (max 1 l.toNat)) ∧ t.modem.linkUp = true ∧t.hold = s.hold ∧
       t.modem.link = .up ∧ (.drop ∈ t.modem.queue ∨ t.modem.slot.map CommandSlot.cmd = some .drop) ∧
       leaves [.modem, .resp] s t) ∧
  (∀ (k l : Byte) (m : Half) (s : State), s.isModem = true → s.hold.role = .quiet ∨
     s.hold.role = .standby ∨ s.hold.role = .recovering ∨ s.hold.role = .resting → k.toNat ≠ 2 ∨
     s.modem.link = .up →
     ∃ t, exec (.statusReport k l m) s = .next t ∧
     t.modem.level = some (min 8 (max 1 l.toNat)) ∧ t.modem.linkUp = decide (k.toNat = 2) ∧
       t.modem.link = (if k.toNat = 2 then .up else if k.toNat = 1 then .training else .down) ∧
       t.hold = s.hold ∧ t.modem.slot = s.modem.slot ∧ (s.modem.link ≠ .up ∨ k.toNat = 2 →
       t.modem.queue = s.modem.queue) ∧
     leaves [.modem, .resp] s t) ∧
  (∀ (k l : Byte) (m : Half) (s : State), s.isModem = true → s.hold.role = .training → k.toNat = 1 ∨
     s.hold.underWay = false →
     ∃ t, exec (.statusReport k l m) s = .next t ∧
     t.modem.level = some (min 8 (max 1 l.toNat)) ∧ t.modem.linkUp = decide (k.toNat = 2) ∧
       t.modem.link = (if k.toNat = 2 then .up else if k.toNat = 1 then .training else .down) ∧
       t.hold = s.hold ∧ t.modem.slot = s.modem.slot ∧ (s.modem.link ≠ .up ∨ k.toNat = 2 →
       t.modem.queue = s.modem.queue) ∧
     leaves [.modem, .resp] s t) ∧
  (∀ (s : State), s.isModem = true → s.hold.role ≠ .holding → s.modem.link = .up →
     s.hold.role ≠ .training ∨ s.hold.underWay = false →
     ∃ t, exec .linkUpFall s = .next t ∧
     t.modem.link = .down ∧ t.modem.linkUp = false ∧ t.hold = s.hold ∧ leaves [.modem, .resp] s t) ∧
  (∀ (s : State), s.isModem = true → s.hold.role = .training → s.hold.underWay = true → s.modem.link = .up →
     ∃ t, exec .linkUpFall s = .next t ∧
     t.modem.link = .down ∧ t.modem.linkUp = false ∧ t.hold = { s.hold with
           role := .recovering, trainingEnd := none, level := if s.hold.stepLevel.isSome = true then
             s.hold.level else max 1 (s.hold.level - 1), retrainEnd := some (s.now + 2000) } ∧
     leaves [.modem, .hold, .resp] s t) ∧
  (∀ (k l : Byte) (m : Half) (s : State), s.isModem = true → s.modem.link = .up → k.toNat ≠ 2 →
     ∃ t, exec (.statusReport k l m) s = .next t ∧
     t.modem.link = (if k.toNat = 1 then .training else .down) ∧ t.modem.linkUp = false ∧
       t.modem.slot = s.modem.slot ∧
     t.modem.queue = s.modem.queue.filter (fun c => match c with | .respond _ => false | _ => true) ∧
     t.resp = (if s.modem.queue.any Command.isRespond = true then { s.resp with
           outstanding := none, pendingMark := none } else s.resp) ∧
       t.log.rest = (if s.hold.role = .holding then raiseOwn .linkLost none (some s.hold.level) s else
       s).log.rest ∧ leaves [.modem, .hold, .log, .resp, .survey] s t) ∧
  (∀ (s : State), s.isModem = true → s.modem.link = .up →
     ∃ t, exec .linkUpFall s = .next t ∧
     t.modem.link = .down ∧ t.modem.linkUp = false ∧ t.modem.slot = s.modem.slot ∧
     t.modem.queue = s.modem.queue.filter (fun c => match c with | .respond _ => false | _ => true) ∧
     t.resp = (if s.modem.queue.any Command.isRespond = true then { s.resp with
           outstanding := none, pendingMark := none } else s.resp) ∧
       t.log.rest = (if s.hold.role = .holding then raiseOwn .linkLost none (some s.hold.level) s else
       s).log.rest ∧ leaves [.modem, .hold, .log, .resp, .survey] s t) ∧
  (∀ (s : State), Settled s → s.isModem = true → s.modem.link ≠ .up →
     exec .linkUpFall s =
       .next (s.onModem fun m => { m with linkUp := false })) ∧
  (∀ (c g : Byte) (s : State), Settled s → s.isModem = true →
     exec (.requestWaitingRise c g) s =
       .next ((s.onModem fun m => { m with request := some { code := c, tag := g },
                                           requestWaiting := false }).onResp fun r => { r with
             overwrites := if s.modem.request.isSome = true then satInc 65535 r.overwrites else r.overwrites }))

/-- R111, R112, R113, R116 to R120, R125: the holding controller's timers, its review of the peer table, and the brace
window. A STATE may also set the day clock, whose hour may clear the night mark (R122). -/
def Obligations.HoldingTimers : Prop :=
  (∀ (d : Nat) (s : State), s.hold.settleEnd = some d → s.hold.role = .quiet → d ≤ s.now → s.anyHolder = true →
     ∃ t, exec .settleTimerExpiry s = .next t ∧
     t.hold = { s.hold with role := .standby, settleEnd := none } ∧ leaves [.hold] s t) ∧
  (∀ (d : Nat) (s : State), s.hold.settleEnd = some d → s.isModem = true → s.hold.role = .quiet →
     d ≤ s.now → s.anyHolder = false → s.profile.retrainBudget ≤ s.hold.history.length →
     ∃ t, exec .settleTimerExpiry s = .next t ∧
     t.hold = { s.hold with role := .resting, settleEnd := none } ∧ (s.log.records.length < 32 ∨
       s.log.hasActive .retrainRest s.own none = true → t.log.hasActive .retrainRest s.own none = true) ∧
       t.log.rest = (raiseOwn .retrainRest none none s).log.rest ∧ leaves [.hold, .log] s t) ∧
  (∀ (d : Nat) (s : State), s.hold.settleEnd = some d → s.isModem = true → s.hold.role = .quiet →
     d ≤ s.now → s.anyHolder = false → s.hold.history.length < s.profile.retrainBudget →
     ∃ t, exec .settleTimerExpiry s = .next t ∧
     t.hold.role = .training ∧ t.hold.level = s.hold.level ∧ t.hold.stepLevel = none ∧
       t.hold.underWay = false ∧ t.hold.trainingEnd = some (s.now + 120000) ∧
       t.hold.history = s.hold.history ++ [s.secs] ∧ (.train (s.hold.level) ∈ t.modem.queue ∨
       t.modem.slot.map CommandSlot.cmd = some (.train (s.hold.level))) ∧ t.survey.stage.measuring = false ∧
     leaves [.modem, .hold, .resp, .survey] s t) ∧
  (∀ (d : Nat) (s : State), s.hold.trainingEnd = some d → s.hold.role = .training → d ≤ s.now →
     ∃ t, exec .trainingTimerExpiry s = .next t ∧
     t.hold = { s.hold with role := .recovering, trainingEnd := none,
                            level := if s.hold.stepLevel.isSome = true then s.hold.level else
                              max 1 (s.hold.level - 1), retrainEnd := some (s.now + 2000) } ∧ leaves [.hold] s t) ∧
  (∀ (d : Nat) (s : State), s.hold.retrainEnd = some d → s.isModem = true → s.hold.role = .recovering →
     d ≤ s.now → s.hold.history.length < s.profile.retrainBudget →
     ∃ t, exec .retrainDelayExpiry s = .next t ∧
     t.hold.role = .training ∧ t.hold.level = s.hold.level ∧ t.hold.stepLevel = none ∧
       t.hold.underWay = false ∧ t.hold.trainingEnd = some (s.now + 120000) ∧
       t.hold.history = s.hold.history ++ [s.secs] ∧ (.train (s.hold.level) ∈ t.modem.queue ∨
       t.modem.slot.map CommandSlot.cmd = some (.train (s.hold.level))) ∧
       t.survey.stage.measuring = false ∧ t.hold.retrainEnd = none ∧
     leaves [.modem, .hold, .resp, .survey] s t) ∧
  (∀ (d : Nat) (s : State), s.hold.retrainEnd = some d → s.hold.role = .recovering →
     d ≤ s.now → s.profile.retrainBudget ≤ s.hold.history.length →
     ∃ t, exec .retrainDelayExpiry s = .next t ∧
     t.hold = { s.hold with role := .resting, retrainEnd := none } ∧ (s.log.records.length < 32 ∨
       s.log.hasActive .retrainRest s.own none = true → t.log.hasActive .retrainRest s.own none = true) ∧
       t.log.rest = (raiseOwn .retrainRest none none s).log.rest ∧ leaves [.hold, .log] s t) ∧
  (∀ (h : Nat) (hs : List Nat) (s : State), s.hold.history = h :: hs → s.isModem = true →
     h + 3600 ≤ s.secs → s.hold.role ≠ .resting ∨ s.profile.retrainBudget ≤ hs.length →
     ∃ t, exec .retrainStampExpiry s = .next t ∧
     t.hold = { s.hold with history := hs } ∧ leaves [.hold] s t) ∧
  (∀ (h : Nat) (hs : List Nat) (s : State), s.hold.history = h :: hs → s.isModem = true →
     h + 3600 ≤ s.secs → s.hold.role = .resting → hs.length < s.profile.retrainBudget →
     ∃ t, exec .retrainStampExpiry s = .next t ∧
     t.hold.role = .training ∧ t.hold.level = s.hold.level ∧ t.hold.stepLevel = none ∧
       t.hold.underWay = false ∧ t.hold.trainingEnd = some (s.now + 120000) ∧
       t.hold.history = hs ++ [s.secs] ∧ (.train (s.hold.level) ∈ t.modem.queue ∨
       t.modem.slot.map CommandSlot.cmd = some (.train (s.hold.level))) ∧
       t.survey.stage.measuring = false ∧ t.log.hasActive .retrainRest s.own none = false ∧
       t.log.rest = (clearOwn .retrainRest none s).log.rest ∧
     leaves [.modem, .hold, .log, .resp, .survey] s t) ∧
  (∀ (f : RxFrame) (rest : List RxSlot) (s : State), s.chan.slots = .delivered f :: rest →
     rest.any RxSlot.isProcessing = false → f.kind = .notice → s.lowerHolder = false →
     (s.peer f.sender).any (fun e => e.present) = true → s.isModem = true → s.hold.role = .holding →
     s.hold.window = none →
     ∃ t, exec .notice s = .next t ∧
     let u := max 1 (min 50 (u8 f.body 1))
     t.hold = { s.hold with window := some { start := s.now, ends := s.now + 100 * min 300 u } } ∧
       t.modem.braced = true ∧
     (t.modem.queue.contains (.brace (min 300 u)) = true ∨
       t.modem.slot.map CommandSlot.cmd = some (.brace (min 300 u))) ∧
     leaves [.peers, .channel, .hold, .modem, .log, .resp, .port1, .port2, .ring, .survey] s t) ∧
  (∀ (f : RxFrame) (rest : List RxSlot) (w : BraceWindow) (s : State),
     s.chan.slots = .delivered f :: rest → s.hold.window = some w → rest.any RxSlot.isProcessing = false →
     f.kind = .notice → s.lowerHolder = false → (s.peer f.sender).any (fun e => e.present) = true →
     s.isModem = true → s.hold.role = .holding → s.now ≤ w.ends → w.ends ≤ w.start + 30000 →
     ∃ t, exec .notice s = .next t ∧
     let e := min (max w.ends (s.now + 100 * max 1 (min 50 (u8 f.body 1)))) (w.start + 30000)
     t.hold = { s.hold with window := some { w with ends := e } } ∧ t.modem.braced = s.modem.braced ∧
     (w.ends < e → (t.modem.queue.contains (.brace ((e - s.now + 99) / 100)) = true ∨
       t.modem.slot.map CommandSlot.cmd = some (.brace ((e - s.now + 99) / 100)))) ∧ (e ≤ w.ends →
       t.modem.slot = s.modem.slot ∧ t.modem.queue = s.modem.queue) ∧
     leaves [.peers, .channel, .hold, .modem, .log, .resp, .port1, .port2, .ring, .survey] s t) ∧
  (∀ (d : Nat) (s : State), s.survey.dueEnd = some d → s.survey.stage = .idle → d ≤ s.now →
     s.portsQuiet = true ∧ s.loop.loop = .opened ∧ s.line.st = .idle ∧ s.ring.call ≠ .inProgress ∧
     s.peerInUse = false ∧ (s.peers.any fun e => decide (e.showsRole = some .training)) = false ∧
     s.hold.role ≠ .training ∧ (s.peers.any fun e => e.notice.any fun n => decide (s.now ≤ n.receipt + 2000)) =
     false → s.isModem = true → s.hold.role = .holding → s.hold.window = none →
     ∃ t, exec .surveyDue s = .next t ∧
     let u := max 5 ((s.chan.noticeSlot.map Prod.snd).getD 0)
     t.hold = { s.hold with window := some { start := s.now, ends := s.now + 100 * min 300 u } } ∧
       t.modem.braced = true ∧
     (t.modem.queue.contains (.brace (min 300 u)) = true ∨
       t.modem.slot.map CommandSlot.cmd = some (.brace (min 300 u))) ∧
     leaves [.survey, .channel, .hold, .modem, .resp] s t) ∧
  (∀ (d : Nat) (w : BraceWindow) (s : State), s.survey.dueEnd = some d → s.hold.window = some w →
     s.survey.stage = .idle → d ≤ s.now → s.portsQuiet = true ∧ s.loop.loop = .opened ∧
     s.line.st = .idle ∧ s.ring.call ≠ .inProgress ∧ s.peerInUse = false ∧
     (s.peers.any fun e => decide (e.showsRole = some .training)) = false ∧ s.hold.role ≠ .training ∧
     (s.peers.any fun e => e.notice.any fun n => decide (s.now ≤ n.receipt + 2000)) = false →
     s.isModem = true → s.hold.role = .holding → s.now ≤ w.ends → w.ends ≤ w.start + 30000 →
     ∃ t, exec .surveyDue s = .next t ∧
     let e := min (max w.ends (s.now + 100 * max 5 ((s.chan.noticeSlot.map Prod.snd).getD 0))) (w.start + 30000)
     t.hold = { s.hold with window := some { w with ends := e } } ∧ t.modem.braced = s.modem.braced ∧
     (w.ends < e → (t.modem.queue.contains (.brace ((e - s.now + 99) / 100)) = true ∨
       t.modem.slot.map CommandSlot.cmd = some (.brace ((e - s.now + 99) / 100)))) ∧ (e ≤ w.ends →
       t.modem.slot = s.modem.slot ∧ t.modem.queue = s.modem.queue) ∧
     leaves [.survey, .channel, .hold, .modem, .resp] s t) ∧
  (∀ (s : State), s.ring.burst = .starting → s.ring.burstSince + 100 ≤ s.now → s.isModem = true →
     s.hold.role = .holding → s.hold.window = none →
     ∃ t, exec .burstStart s = .next t ∧
     let u := 60
     t.hold = { s.hold with window := some { start := s.now, ends := s.now + 100 * min 300 u } } ∧
       t.modem.braced = true ∧
     (t.modem.queue.contains (.brace (min 300 u)) = true ∨
       t.modem.slot.map CommandSlot.cmd = some (.brace (min 300 u))) ∧
     leaves [.port1, .port2, .ring, .survey, .hold, .modem, .resp] s t) ∧
  (∀ (w : BraceWindow) (s : State), s.hold.window = some w → s.ring.burst = .starting →
     s.ring.burstSince + 100 ≤ s.now → s.isModem = true → s.hold.role = .holding → s.now ≤ w.ends →
     w.ends ≤ w.start + 30000 →
     ∃ t, exec .burstStart s = .next t ∧
     let e := min (max w.ends (s.now + 100 * 60)) (w.start + 30000)
     t.hold = { s.hold with window := some { w with ends := e } } ∧ t.modem.braced = s.modem.braced ∧
     (w.ends < e → (t.modem.queue.contains (.brace ((e - s.now + 99) / 100)) = true ∨
       t.modem.slot.map CommandSlot.cmd = some (.brace ((e - s.now + 99) / 100)))) ∧ (e ≤ w.ends →
       t.modem.slot = s.modem.slot ∧ t.modem.queue = s.modem.queue) ∧
     leaves [.port1, .port2, .ring, .survey, .hold, .modem, .resp] s t) ∧
  (∀ (w : BraceWindow) (s : State), s.hold.window = some w → s.isModem = true → w.ends ≤ s.now →
     ∃ t, exec .braceWindowEnd s = .next t ∧
     t.hold = { s.hold with window := none } ∧ t.modem.braced = false ∧ (.unbrace ∈ t.modem.queue ∨
       t.modem.slot.map CommandSlot.cmd = some .unbrace) ∧
     leaves [.modem, .hold, .resp] s t) ∧
  (∀ (w : StepWatch) (s : State), s.hold.watch = some w → Settled s → w.expiry ≤ s.now →
     exec .stepWatchExpiry s =
       .next (s.onHold fun h => { h with watch := none })) ∧
  (∀ (f : RxFrame) (rest : List RxSlot) (s : State), s.chan.slots = .delivered f :: rest →
     rest.any RxSlot.isProcessing = false → f.kind = .state → s.isModem = true →
     s.hold.role = .training ∨ s.hold.role = .holding → ((readState f.body).role = .training ∨
     (readState f.body).role = .holding) → f.sender < s.own → (s.peer f.sender).any (fun e => e.holder) = false →
     ∃ t, exec .state s = .next t ∧
     (s.hold.role = .training → t.hold = { s.hold with role := .standby, trainingEnd := none,
                                                       nightMark := s.hold.nightMark && !(t.time.clock.any fun c =>
                                                         decide (t.time.clock ≠ s.time.clock ∧ c.hour ≠ 2 ∧
                                                         c.hour ≠ 3)) }) ∧
     (s.hold.role = .holding → t.hold = { s.hold with role := .standby, window := none, s16 := none,
                                                      watch := none, upSince := none,
                                                      nightMark := s.hold.nightMark && !(t.time.clock.any fun c =>
                                                        decide (t.time.clock ≠ s.time.clock ∧ c.hour ≠ 2 ∧
                                                        c.hour ≠ 3)) }) ∧
     (.drop ∈ t.modem.queue ∨ t.modem.slot.map CommandSlot.cmd = some .drop) ∧
       (s.hold.role = .holding → t.modem.braced = false) ∧
       t.log.hasActive .linkLost s.own none = s.log.hasActive .linkLost s.own none ∧ leaves [.peers,
       .channel, .hold, .modem, .log, .resp, .port1, .port2, .ring, .survey, .time, .loop] s t) ∧
  (∀ (f : RxFrame) (rest : List RxSlot) (s : State), s.chan.slots = .delivered f :: rest →
     rest.any RxSlot.isProcessing = false → f.kind = .state → s.isModem = true →
     s.hold.role = .recovering ∨ s.hold.role = .resting → ((readState f.body).role = .training ∨
     (readState f.body).role = .holding) → f.sender < s.own → (s.peer f.sender).any (fun e => e.holder) = false →
     ∃ t, exec .state s = .next t ∧
     (s.hold.role = .recovering → t.hold = { s.hold with role := .standby, retrainEnd := none,
                                                         nightMark := s.hold.nightMark && !(t.time.clock.any fun c
                                                           => decide (t.time.clock ≠ s.time.clock ∧
                                                           c.hour ≠ 2 ∧ c.hour ≠ 3)) }) ∧
     (s.hold.role = .resting → t.hold = { s.hold with role := .standby,
                                                      nightMark := s.hold.nightMark && !(t.time.clock.any fun c =>
                                                        decide (t.time.clock ≠ s.time.clock ∧ c.hour ≠ 2 ∧
                                                        c.hour ≠ 3)) }) ∧
     t.modem.queue = s.modem.queue ∧ t.modem.slot = s.modem.slot ∧ (s.hold.role = .resting →
       t.log.hasActive .retrainRest s.own none = false) ∧ leaves [.peers, .channel, .hold, .modem, .log,
       .resp, .port1, .port2, .ring, .survey, .time, .loop] s t) ∧
  (∀ (f : RxFrame) (rest : List RxSlot) (s : State), s.chan.slots = .delivered f :: rest →
     rest.any RxSlot.isProcessing = false → f.kind = .state → s.isModem = true → s.hold.role = .quiet →
     ((readState f.body).role = .training ∨ (readState f.body).role = .holding) →
     (s.peer f.sender).any (fun e => e.holder) = false →
     ∃ t, exec .state s = .next t ∧
     t.hold = { s.hold with role := .standby, settleEnd := none,
                            nightMark := s.hold.nightMark && !(t.time.clock.any fun c => decide (t.time.clock ≠
                              s.time.clock ∧ c.hour ≠ 2 ∧ c.hour ≠ 3)) } ∧
       t.modem.queue = s.modem.queue ∧ t.modem.slot = s.modem.slot ∧ leaves [.peers, .channel, .hold, .modem,
       .log, .resp, .port1, .port2, .ring, .survey, .time, .loop] s t) ∧
  (∀ (f : RxFrame) (rest : List RxSlot) (s : State), s.chan.slots = .delivered f :: rest →
     rest.any RxSlot.isProcessing = false → f.kind = .state → s.isModem = true →
     s.hold.role = .training ∨ s.hold.role = .holding ∨ s.hold.role = .recovering ∨ s.hold.role = .resting →
     s.own < f.sender → s.lowerHolder = false →
     ∃ t, exec .state s = .next t ∧
     t.hold = { s.hold with nightMark := s.hold.nightMark && !(t.time.clock.any fun c => decide (t.time.clock ≠
                              s.time.clock ∧ c.hour ≠ 2 ∧ c.hour ≠ 3)) } ∧
       t.modem.queue = s.modem.queue ∧ t.modem.slot = s.modem.slot ∧ leaves [.peers, .channel, .hold, .modem,
       .log, .resp, .port1, .port2, .ring, .survey, .time, .loop] s t) ∧
  (∀ (f : RxFrame) (rest : List RxSlot) (s : State), s.chan.slots = .delivered f :: rest →
     rest.any RxSlot.isProcessing = false → f.kind = .state → s.isModem = true → s.hold.role = .standby →
     ¬ ((readState f.body).role = .training ∨ (readState f.body).role = .holding) →
     (s.peer f.sender).any (fun e => e.holder) = true →
     s.peers.all (fun e => decide (e.number = f.sender) || !e.holder) = true →
     ∃ t, exec .state s = .next t ∧
     t.hold = { s.hold with role := .quiet, settleEnd := some (s.now + 15000 + 2000 * s.own),
                            nightMark := s.hold.nightMark && !(t.time.clock.any fun c => decide (t.time.clock ≠
                              s.time.clock ∧ c.hour ≠ 2 ∧ c.hour ≠ 3)) } ∧
       t.modem.queue = s.modem.queue ∧ t.modem.slot = s.modem.slot ∧ leaves [.peers, .channel, .hold, .modem,
       .log, .resp, .port1, .port2, .ring, .survey, .time, .loop] s t) ∧
  (∀ (f : RxFrame) (rest : List RxSlot) (s : State), s.chan.slots = .delivered f :: rest →
     rest.any RxSlot.isProcessing = false → f.kind = .state → s.isModem = true →
     s.hold.role = .standby → ((readState f.body).role = .training ∨
     (readState f.body).role = .holding) ∨ (s.peers.any fun e => decide (e.number ≠ f.sender) && e.holder) = true →
     ∃ t, exec .state s = .next t ∧
     t.hold = { s.hold with nightMark := s.hold.nightMark && !(t.time.clock.any fun c => decide (t.time.clock ≠
                              s.time.clock ∧ c.hour ≠ 2 ∧ c.hour ≠ 3)) } ∧
       t.modem.queue = s.modem.queue ∧ t.modem.slot = s.modem.slot ∧ leaves [.peers, .channel, .hold, .modem,
       .log, .resp, .port1, .port2, .ring, .survey, .time, .loop] s t) ∧
  (∀ (f : RxFrame) (rest : List RxSlot) (e : Peer) (q : StateFields × Nat) (s : State),
     s.chan.slots = .delivered f :: rest → s.peer f.sender = some e → e.statePart = some q →
     rest.any RxSlot.isProcessing = false → f.kind = .call → s.isModem = true → s.hold.role ≠ .standby →
     s.hold.role = .quiet ∨ f.sender < s.own → e.present = false → q.1.role = .training ∨ q.1.role = .holding →
     ∃ t, exec .call s = .next t ∧
     (s.hold.role = .quiet → t.hold = { s.hold with role := .standby, settleEnd := none }) ∧
     (s.hold.role = .training → t.hold = { s.hold with role := .standby, trainingEnd := none }) ∧
     (s.hold.role = .holding → t.hold = { s.hold with role := .standby, window := none, s16 := none,
                                                      watch := none, upSince := none }) ∧
     (s.hold.role = .recovering → t.hold = { s.hold with role := .standby, retrainEnd := none }) ∧
     (s.hold.role = .resting → t.hold = { s.hold with role := .standby }) ∧
     (s.hold.role = .training ∨ s.hold.role = .holding → (.drop ∈ t.modem.queue ∨
       t.modem.slot.map CommandSlot.cmd = some .drop)) ∧ (s.hold.role ≠ .training ∧
       s.hold.role ≠ .holding → t.modem.queue = s.modem.queue ∧ t.modem.slot = s.modem.slot) ∧
     (s.hold.role = .holding → t.modem.braced = false) ∧ (s.hold.role = .resting →
       t.log.hasActive .retrainRest s.own none = false) ∧
       t.log.hasActive .linkLost s.own none = s.log.hasActive .linkLost s.own none ∧
     leaves [.peers, .channel, .hold, .modem, .log, .resp, .port1, .port2, .ring, .survey, .loop] s t) ∧
  (∀ (n : Nat) (e : Peer) (d : Nat) (s : State), s.peer n = some e → e.silenceEnd = some d → e.present = true →
     d ≤ s.now → s.isModem = true → s.hold.role = .standby →
     ∃ t, exec (.peerSilenceExpiry n) s = .next t ∧
     t.hold = (if (s.peers.any fun x => decide (x.number ≠ n) && x.holder) = true then s.hold else { s.hold with
           role := .quiet, settleEnd := some (s.now + 15000 + 2000 * s.own) }) ∧
       t.modem.queue = s.modem.queue ∧ t.modem.slot = s.modem.slot ∧
     leaves [.peers, .hold, .modem, .log, .resp, .port1, .port2, .ring, .survey] s t)

/-! ### The survey (08) -/

/-- R129 to R137, R139: a survey falls due, its lead ends, and its samples up to the last of NOISE. Sample instants
are counted in 125 µs units (assumption 22). -/
def Obligations.SurveyStages : Prop :=
  (∀ (d : Nat) (s : State), s.survey.dueEnd = some d → s.survey.stage = .idle → d ≤ s.now →
     s.portsQuiet = true ∧ s.loop.loop = .opened ∧ s.line.st = .idle ∧ s.ring.call ≠ .inProgress ∧
     s.peerInUse = false ∧ (s.peers.any fun e => decide (e.showsRole = some .training)) = false ∧
     s.hold.role ≠ .training ∧ (s.peers.any fun e => e.notice.any fun n => decide (s.now ≤ n.receipt + 2000)) =
     false →
     ∃ t, exec .surveyDue s = .next t ∧
     t.survey = { s.survey with stage := .notice, dueEnd := none, deferrals := 0, lead := some {
                                  placed := s.now, stale := s.chan.noticeInFlight, sent := none } } ∧
     t.chan.noticeSlot = some (mergeNotice s.chan.noticeSlot .surveyLoad 5) ∧ leaves [.survey, .channel,
       .hold, .modem, .resp] s t) ∧
  (∀ (d : Nat) (s : State), s.survey.dueEnd = some d → s.survey.stage = .idle → d ≤ s.now →
     ¬ (s.portsQuiet = true ∧ s.loop.loop = .opened ∧ s.line.st = .idle ∧ s.ring.call ≠ .inProgress ∧
     s.peerInUse = false ∧ (s.peers.any fun e => decide (e.showsRole = some .training)) = false ∧
     s.hold.role ≠ .training ∧ (s.peers.any fun e => e.notice.any fun n => decide (s.now ≤ n.receipt + 2000)) =
     false) →
     ∃ t, exec .surveyDue s = .next t ∧
     t.survey = { s.survey with dueEnd := some (s.now + 60000), deferrals := min 255 (s.survey.deferrals + 1) } ∧
     (s.survey.deferrals = 9 → (s.log.records.length < 32 ∨
       s.log.hasActive .surveyBlocked s.own none = true →
       t.log.hasActive .surveyBlocked s.own none = true)) ∧ (s.survey.deferrals ≠ 9 →
       t.log.records = s.log.records) ∧ t.log.rest = (if s.survey.deferrals = 9 then
       raiseOwn .surveyBlocked none none s else s).log.rest ∧ leaves [.survey, .log] s t) ∧
  (∀ (l : SurveyLead) (s : State), s.survey.lead = some l → Settled s → s.survey.stage = .notice →
     min (l.placed + 400) ((l.sent.map (· + 100)).getD (l.placed + 400)) ≤ s.now → s.portsQuiet = true ∧
     s.loop.loop = .opened ∧ s.line.st = .idle ∧ s.ring.call ≠ .inProgress ∧ s.peerInUse = false ∧
     (s.peers.any fun e => decide (e.showsRole = some .training)) = false ∧ s.hold.role ≠ .training ∧
     (s.peers.any fun e => e.notice.any fun n => decide (s.now ≤ n.receipt + 2000)) = false →
     exec .surveyLeadEnd s =
       .next (s.onSurvey fun v => { v with stage := .opened, lead := none, sums := {
                                             openV := 0, loadV := 0, loadI := 0, earthTip := 0,
                                             earthRing := 0, noise := 0 }, taken := 0, sampleAt := 8 * s.now })) ∧
  (∀ (l : SurveyLead) (s : State), s.survey.lead = some l → Settled s → s.survey.stage = .notice →
     min (l.placed + 400) ((l.sent.map (· + 100)).getD (l.placed + 400)) ≤ s.now →
     ¬ (s.portsQuiet = true ∧ s.loop.loop = .opened ∧ s.line.st = .idle ∧ s.ring.call ≠ .inProgress ∧
     s.peerInUse = false ∧ (s.peers.any fun e => decide (e.showsRole = some .training)) = false ∧
     s.hold.role ≠ .training ∧ (s.peers.any fun e => e.notice.any fun n => decide (s.now ≤ n.receipt + 2000)) =
     false) →
     exec .surveyLeadEnd s =
       .next (s.onSurvey fun v => { v with stage := .idle, dueEnd := some (s.now + 60000 + 7000 * s.own),
                                           lead := none, sums := {
                                             openV := 0, loadV := 0, loadI := 0, earthTip := 0,
                                             earthRing := 0, noise := 0 }, taken := 0, sampleAt := 0,
                                           loadOn := false, aborts := min 255 (v.aborts + 1) })) ∧
  (∀ (x : Code) (s : State), Settled s → s.survey.stage = .opened →
     s.survey.sampleAt ≤ 8 * s.now + 7 → s.survey.taken < 15 →
     exec (.openSample x) s =
       .next (s.onSurvey fun v => { v with sums := { v.sums with openV := v.sums.openV + x.toNat },
                                           taken := v.taken + 1, sampleAt := v.sampleAt + 40 })) ∧
  (∀ (x : Code) (s : State), Settled s → s.survey.stage = .opened →
     s.survey.sampleAt ≤ 8 * s.now + 7 → s.survey.taken = 15 →
     exec (.openSample x) s =
       .next (s.onSurvey fun v => { v with sums := { v.sums with openV := v.sums.openV + x.toNat },
                                           taken := 0, stage := .load, sampleAt := v.sampleAt + 800,
                                           loadOn := true })) ∧
  (∀ (x y : Code) (s : State), Settled s → s.survey.stage = .load →
     s.survey.sampleAt ≤ 8 * s.now + 7 → s.survey.taken < 15 →
     exec (.loadSample x y) s =
       .next (s.onSurvey fun v => { v with sums := { v.sums with
                                             loadV := v.sums.loadV + x.toNat,
                                             loadI := v.sums.loadI + y.toNat }, taken := v.taken + 1,
                                           sampleAt := v.sampleAt + 40 })) ∧
  (∀ (x y : Code) (s : State), Settled s → s.survey.stage = .load →
     s.survey.sampleAt ≤ 8 * s.now + 7 → s.survey.taken = 15 →
     exec (.loadSample x y) s =
       .next (s.onSurvey fun v => { v with sums := { v.sums with
                                             loadV := v.sums.loadV + x.toNat,
                                             loadI := v.sums.loadI + y.toNat }, taken := 0,
                                           stage := .earth, sampleAt := v.sampleAt + 0, loadOn := false })) ∧
  (∀ (x y : Code) (s : State), Settled s → s.survey.stage = .earth →
     s.survey.sampleAt ≤ 8 * s.now + 7 → s.survey.taken < 15 →
     exec (.earthSample x y) s =
       .next (s.onSurvey fun v => { v with sums := { v.sums with
                                             earthTip := v.sums.earthTip + x.toNat,
                                             earthRing := v.sums.earthRing + y.toNat },
                                           taken := v.taken + 1, sampleAt := v.sampleAt + 40 })) ∧
  (∀ (x y : Code) (s : State), Settled s → s.survey.stage = .earth →
     s.survey.sampleAt ≤ 8 * s.now + 7 → s.survey.taken = 15 →
     exec (.earthSample x y) s =
       .next (s.onSurvey fun v => { v with sums := { v.sums with
                                             earthTip := v.sums.earthTip + x.toNat,
                                             earthRing := v.sums.earthRing + y.toNat }, taken := 0,
                                           stage := .noise, sampleAt := v.sampleAt + 0, loadOn := false })) ∧
  (∀ (x : Code) (s : State), Settled s → s.survey.stage = .noise →
     s.survey.sampleAt ≤ 8 * s.now + 7 → s.survey.taken < 255 →
     exec (.noiseSample x) s =
       .next (s.onSurvey fun v => { v with sums := { v.sums with
                                             noise := v.sums.noise + ((x.toNat - 2048) + (2048 - x.toNat)) },
                                           taken := v.taken + 1, sampleAt := v.sampleAt + 1 }))

/-- R137, R141 to R145, R147 to R149, R163: the last NOISE sample, the figures, their tests, and the localisation run
asked for. -/
def Obligations.SurveyCompletes : Prop :=
  ∀ (x : Code) (s : State), s.survey.stage = .noise → s.survey.sampleAt ≤ 8 * s.now + 7 → s.survey.taken = 255 →
    ∃ t, exec (.noiseSample x) s = .next t ∧
    let sum := s.survey.sums.noise + ((x.toNat - 2048) + (2048 - x.toNat))
    let vo := (s.survey.sums.openV + 8) / 16
    let vl := (s.survey.sums.loadV + 8) / 16
    let ci := (s.survey.sums.loadI + 8) / 16
    let vt := (s.survey.sums.earthTip + 8) / 16
    let vr := (s.survey.sums.earthRing + 8) / 16
    let rf := ((vo - vl) * 6250 + ci / 2) / ci
    let f : Figures := { number := s.survey.number, measured := s.secs, vOpen := vo, feed := if ci < 200 then
                           none else if vo ≤ vl then some 0 else some (min rf 9999),
                         atLimit := decide (200 ≤ ci ∧ vl < vo ∧ 9999 < rf), imbalance := if vt + vr < 64 then
                           none else some ((((vt - vr) + (vr - vt)) * 1000 + (vt + vr) / 2) / (vt + vr)),
                         grade := ([2, 3, 4, 6, 8, 11, 16, 23, 32, 45, 64, 91, 128, 181,
                         256].filter fun g => decide (g ≤ (sum + 128) / 256)).length,
                         offset := s.profile.expectedOffset }
    t.survey.figures = some f ∧ t.survey.number = (s.survey.number + 1) % 256 ∧
      t.survey.stage = .idle ∧ t.survey.loadOn = false ∧
    t.survey.dueEnd = some (s.now + 60000 * s.profile.surveyInterval) ∧ t.chan.surveySlot = some f ∧
    t.survey.collection = (if s.survey.baseline = none then
      s.survey.collection ++ f.imbalance.toList else s.survey.collection) ∧
    t.survey.baseline = (if s.survey.baseline = none ∧ f.imbalance.isSome = true ∧
      s.survey.collection.length = 3 then some ((s.survey.collection.sum + f.imbalance.getD 0 + 2) / 4) else
      s.survey.baseline) ∧
    t.log.hasActive .surveyBlocked s.own none = false ∧
    (f.feed.any (fun r => decide (s.profile.loopLimit < r)) = true → (s.log.records.length < 32 ∨
      s.log.hasActive .loopHigh s.own none = true → t.log.hasActive .loopHigh s.own none = true)) ∧
    (f.feed.any (fun r => decide (r + 100 ≤ s.profile.loopLimit)) = true →
      t.log.hasActive .loopHigh s.own none = false) ∧
    (s.profile.noiseThreshold ≤ f.grade → s.log.records.length + 2 < 32 ∨
      s.log.hasActive .noise s.own none = true → t.log.hasActive .noise s.own none = true) ∧
    (f.grade + 2 ≤ s.profile.noiseThreshold → t.log.hasActive .noise s.own none = false) ∧
    (f.imbalance.any (fun i => t.survey.baseline.any fun b => decide (s.profile.earthThreshold < (i - b) + (b - i)))
      = true → s.log.records.length + 1 < 32 ∨ s.log.hasActive .earth s.own none = true →
      t.log.hasActive .earth s.own none = true) ∧
    (f.imbalance.any (fun i => t.survey.baseline.any fun b => decide ((i - b) + (b - i) ≤ s.profile.earthThreshold /
      2)) = true → t.log.hasActive .earth s.own none = false) ∧
    let test : FaultClass → Bool → Bool → Nat → State → State := fun c up down v u => if up then
      raiseOwn c none (some v) u else if down then clearOwn c none u else u
    let looped := (f.feed.map fun r => test .loopHigh (decide (s.profile.loopLimit < r)) (decide (r ≤
      s.profile.loopLimit - 100)) r s).getD s
    let earthed := (f.imbalance.bind fun i => t.survey.baseline.map fun b => test .earth (decide
      (s.profile.earthThreshold < (i - b) + (b - i))) (decide ((i - b) + (b - i) ≤ s.profile.earthThreshold / 2)) i
      looped).getD looped
    let noised := test .noise (decide (s.profile.noiseThreshold ≤ f.grade)) (decide (f.grade ≤
      s.profile.noiseThreshold - 2)) f.grade earthed
    t.log.records = (clearOwn .surveyBlocked none noised).log.records ∧
      t.log.seqCounter = noised.log.seqCounter ∧ t.log.overflow = noised.log.overflow ∧
    (s.isModem = true → s.log.run = none → t.log.run = (if 2 ≤ t.eligibleSets.length then some {
          sets := t.eligibleSets, ends := s.now + 50 * t.eligibleSets.length, holdsSlot := false } else
      none) ∧ t.log.pendingRun = s.log.pendingRun) ∧
    (s.isModem = true → s.log.run.isSome = true → t.log.run = s.log.run ∧
      t.log.pendingRun = some (s.log.pendingRun.getD false)) ∧
    (s.isModem = false → t.log.run = s.log.run ∧ t.log.pendingRun = s.log.pendingRun) ∧
    t.log.reference = s.log.reference ∧ t.chan.slots = s.chan.slots ∧
    leaves [.survey, .log, .channel] s t

/-! ### Localisation (09) and the exchange's requests (10) -/

/-- R163 to R166: a run that a SURVEY starts, the end of a run, and, in the last clause, the eligible sets: ages are
whole seconds rounded down (assumption 19). -/
def Obligations.LocalisationRuns : Prop :=
  (∀ (u : Run) (r : RunSet) (s : State), s.log.run = some u → u.ends ≤ s.now → r ∈ u.sets → (∀ x ∈ u.sets,
     r.feed < x.feed ∨ (r.feed = x.feed ∧ r.station ≤ x.station)) →
     u.sets.Pairwise (fun a b => a.station < b.station) → s.log.records.length + u.sets.length ≤ 32 →
     30 ≤ s.profile.jointThreshold → s.log.pendingRun = none →
     ∃ t, exec .localisationRunEnd s = .next t ∧
     t.log.run = none ∧ t.log.reference = some { station := r.station, feed := r.feed, uptime := s.secs } ∧
     (s.log.records.all fun y => decide (y.st = .active ∧ y.cls = .joint ∧ y.qual = none ∧ ∃ x ∈ u.sets,
       x.station = y.origin ∧ ¬ (s.profile.jointThreshold < x.feed - r.feed - x.offset + 30 ∧
       x.feed - r.feed - x.offset ≤ s.profile.jointThreshold)) || t.log.records.contains y) = true ∧
     u.sets.all (fun x => decide (x.feed - r.feed - x.offset ≤ s.profile.jointThreshold) || t.log.hasActive .joint
       x.station none) = true ∧
     u.sets.all (fun x => decide (x.feed - r.feed - x.offset ≤ s.profile.jointThreshold) || t.log.records.any fun y
       => decide (y.st = .active ∧ y.cls = .joint ∧ y.origin = x.station ∧ y.qual = none ∧
       y.value = some (x.feed - r.feed - x.offset) ∧ y.last = s.secs)) = true ∧
     u.sets.all (fun x => decide (s.profile.jointThreshold < x.feed - r.feed - x.offset + 30) || !t.log.hasActive
       .joint x.station none) = true ∧
     (u.holdsSlot = true → t.chan.slots.any RxSlot.isProcessing = false) ∧ (u.holdsSlot = false →
       t.chan.slots = s.chan.slots) ∧
     leaves [.log, .channel] s t) ∧
  (∀ (u : Run) (r : RunSet) (s : State), s.log.run = some u → u.ends ≤ s.now → r ∈ u.sets → (∀ x ∈ u.sets,
     r.feed < x.feed ∨ (r.feed = x.feed ∧ r.station ≤ x.station)) →
     u.sets.Pairwise (fun a b => a.station < b.station) →
     ∃ t, exec .localisationRunEnd s = .next t ∧
     let excess : RunSet → Nat := fun x => x.feed - r.feed - x.offset
     let judged := u.sets.foldl (fun w x => if s.profile.jointThreshold < excess x then
       raise .joint x.station none .localised (some (excess x)) 1 w else
       if excess x ≤ s.profile.jointThreshold - 30 then clear .joint x.station none w else w) s
     t.log.records = judged.log.records ∧ t.log.seqCounter = judged.log.seqCounter ∧
       t.log.overflow = judged.log.overflow ∧
     t.log.reference = some { station := r.station, feed := r.feed, uptime := s.secs } ∧
     leaves [.log, .channel] s t) ∧
  (∀ (u : Run) (h : Bool) (s : State), s.log.run = some u → s.log.pendingRun = some h → u.ends ≤ s.now →
     u.sets ≠ [] →
     ∃ t, exec .localisationRunEnd s = .next t ∧
     t.log.run = (if 2 ≤ s.eligibleSets.length then some { sets := s.eligibleSets,
                                                           ends := s.now + 50 * s.eligibleSets.length,
                                                           holdsSlot := h } else none) ∧ t.log.pendingRun = none ∧
     (t.log.reference.map fun x => x.uptime) = some s.secs ∧
     leaves [.log, .channel] s t) ∧
  (∀ (f : RxFrame) (rest : List RxSlot) (s : State), s.chan.slots = .delivered f :: rest →
     rest.any RxSlot.isProcessing = false → f.kind = .survey → s.isModem = true → s.log.run = none →
     ∃ t, exec .survey s = .next t ∧
     t.log.run = (if 2 ≤ t.eligibleSets.length then some { sets := t.eligibleSets,
                                                           ends := s.now + 50 * t.eligibleSets.length,
                                                           holdsSlot := true } else none) ∧
     t.chan.slots = (if 2 ≤ t.eligibleSets.length then .processing f :: rest else rest) ∧
       t.log.pendingRun = s.log.pendingRun ∧
     leaves [.peers, .channel, .hold, .modem, .log, .resp, .port1, .port2, .ring, .survey] s t) ∧
  (∀ s : State, PeersOk s → s.eligibleSets.Pairwise (fun a b => a.station < b.station) ∧
     s.eligibleSets.length ≤ 1 + s.peers.length ∧
     ∀ x : RunSet, x ∈ s.eligibleSets ↔
       (∃ f, s.survey.figures = some f ∧ s.secs ≤ f.measured + 7200 ∧ f.feed = some x.feed ∧
         f.atLimit = false ∧ x.station = s.own ∧ x.offset = f.offset) ∨
       (∃ e ∈ s.peers, ∃ f receipt, e.figures = some (f, receipt) ∧ (s.now - receipt) / 1000 ≤ 7200 ∧
         f.feed = some x.feed ∧ f.atLimit = false ∧ x.station = e.number ∧ x.offset = f.offset))

/-- R169 to R171, R173 to R177, R195, R196: the exchange's requests, their answers byte by byte. R178: the LINE lamp's
flash. The rounding of the NOTICE end is free, its sign is not (assumption 18); ages are whole seconds rounded down
(assumption 19); a later RESTART starts the deadline anew (assumption 51). -/
def Obligations.Requests : Prop :=
  (∀ (r : Request) (s : State), s.modem.request = some r → s.isModem = true →
     s.resp.outstanding = none → s.modem.link = .up → r.code.toNat = 1 →
     ∃ t, exec .summary s = .next t ∧
     let answer : List Byte := [r.code, r.tag] ++ ([0, b8 s.own, b8 (([.power, .remote,
       .loc] : List RestartCause).idxOf s.loader.cause),
       b8 s.loader.count] ++ be32 s.secs ++ [b8 (([.absent, .quiet, .standby, .training, .holding,
       .recovering, .resting] : List Role).idxOf s.hold.role),
       b8 s.hold.level] ++ be16 ((s.hold.s16.map fun x => (x + 8) / 16).getD 0xFFFF) ++ ([.lineDown,
       .loopHigh, .joint, .earth, .noise, .linkLost, .retrainRest, .modemSilent, .handsetLockout,
       .ringFault, .peerSilent, .numberClash, .channelJam, .surveyBlocked,
       .profileDefault] : List FaultClass).map (fun c => b8 (s.log.records.countP fun x => decide (x.st = .active ∧
       x.cls = c))) ++ [b8 s.log.records.length] ++ be16 s.log.overflow ++ be16 s.chan.sent ++ be16
       s.chan.collisions ++ be16 s.chan.checkFails ++ be16 s.chan.formatErrs ++ be16 s.chan.overruns ++ be16
       s.chan.received ++ [b8 s.port1.discards, b8 s.port2.discards, b8 s.ring.checkFails, b8 s.ring.overwrites,
       b8 s.survey.deferrals, b8 s.survey.aborts] ++ be16 s.resp.overwrites)
     t.modem.request = none ∧ (s.modem.queue.length < 4 →
       (t.modem.slot.map CommandSlot.cmd = some (.respond answer) ∨
       .respond answer ∈ t.modem.queue) ∧ t.resp.outstanding = some {
           code := r.code, tag := r.tag, issued := s.now }) ∧ (4 ≤ s.modem.queue.length →
       t.resp.outstanding = none) ∧ answer.length = 52 ∧ t.log.records = s.log.records ∧
     leaves [.modem, .resp] s t) ∧
  (∀ (r : Request) (x : Record) (s : State), s.modem.request = some r →
     s.log.records.find? (fun y => !y.reported) = some x → s.isModem = true →
     s.resp.outstanding = none → s.modem.link = .up → r.code.toNat = 2 →
     ∃ t, exec .next s = .next t ∧
     let answer : List Byte := [r.code, r.tag] ++ ([0] ++ be16 x.seq ++ [b8 x.cls.num, b8 x.origin,
       b8 (x.qual.getD 0), b8 (([.own, .mirrored, .localised] : List Source).idxOf x.source),
       if x.st = .active then 0 else 1] ++ be32 x.first ++ be32 x.last ++ ((x.stamp.map fun k => [b8 k.month,
       b8 k.day, b8 k.hour, b8 k.minute]).getD [0, 0, 0, 0]) ++ [b8 x.count] ++ be16 (x.value.getD 0xFFFF))
     t.modem.request = none ∧ (s.modem.queue.length < 4 →
       (t.modem.slot.map CommandSlot.cmd = some (.respond answer) ∨
       .respond answer ∈ t.modem.queue) ∧ t.resp.outstanding = some {
           code := r.code, tag := r.tag, issued := s.now }) ∧ (4 ≤ s.modem.queue.length →
       t.resp.outstanding = none) ∧ answer.length = 25 ∧ (s.modem.queue.length < 4 →
       t.resp.pendingMark = some (x.seq, x.st)) ∧
     leaves [.modem, .resp] s t) ∧
  (∀ (r : Request) (s : State), s.modem.request = some r → s.isModem = true →
     s.resp.outstanding = none → s.modem.link = .up → r.code.toNat = 2 →
     s.log.records.all (fun y => y.reported) = true →
     ∃ t, exec .next s = .next t ∧
     let answer : List Byte := [r.code, r.tag] ++ [1]
     t.modem.request = none ∧ (s.modem.queue.length < 4 →
       (t.modem.slot.map CommandSlot.cmd = some (.respond answer) ∨
       .respond answer ∈ t.modem.queue) ∧ t.resp.outstanding = some {
           code := r.code, tag := r.tag, issued := s.now }) ∧ (4 ≤ s.modem.queue.length →
       t.resp.outstanding = none) ∧ t.resp.pendingMark = none ∧
     leaves [.modem, .resp] s t) ∧
  (∀ (r : Request) (s : State), s.modem.request = some r → s.isModem = true →
     s.resp.outstanding = none → s.modem.link = .up → r.code.toNat = 3 →
     ∃ t, exec .clear s = .next t ∧
     let answer : List Byte := [r.code, r.tag] ++ [0,
       BitVec.ofNat 8 (s.log.records.countP fun x => decide (x.st = .cleared) && x.reported)]
     t.modem.request = none ∧ (s.modem.queue.length < 4 →
       (t.modem.slot.map CommandSlot.cmd = some (.respond answer) ∨
       .respond answer ∈ t.modem.queue) ∧ t.resp.outstanding = some {
           code := r.code, tag := r.tag, issued := s.now }) ∧ (4 ≤ s.modem.queue.length →
       t.resp.outstanding = none) ∧
     t.log.records = s.log.records.filter (fun x => !(decide (x.st = .cleared) && x.reported)) ∧
       t.log.overflow = 0 ∧ t.log.seqCounter = s.log.seqCounter ∧
     leaves [.modem, .log, .resp] s t) ∧
  (∀ (r : Request) (s : State), s.modem.request = some r → s.isModem = true →
     s.resp.outstanding = none → s.modem.link = .up → r.code.toNat = 4 →
     ∃ t, exec .figures s = .next t ∧
     let answer : List Byte := [r.code, r.tag] ++ ([0,
       b8 s.own] ++ ((s.survey.figures.map fun f => be32 (s.secs - f.measured) ++ f.bytes).getD ([255, 255,
       255, 255] ++ List.replicate 15 0)) ++ be16 (s.survey.baseline.getD 0xFFFF) ++ ((s.log.reference.map fun x =>
       [b8 x.station] ++ be16 x.feed ++ be32 (s.secs - x.uptime)).getD (List.replicate 7 0)) ++ [b8 s.peers.length]
       ++ s.peers.flatMap fun e => ([b8 e.number, if e.present then 0 else
       1] ++ be32 ((s.now - e.lastHeard) / 1000) ++ ((e.statePart.map fun q => [1] ++ q.1.bytes ++ be32 ((s.now -
       q.2) / 1000)).getD (List.replicate 17 0)) ++ ((e.figures.map fun q => [1] ++ q.1.bytes ++ be32 ((s.now - q.2)
       / 1000)).getD (List.replicate 20 0)) ++ ((e.notice.map fun n => [b8 (1 + ([.loopClose,
       .loopOpen, .surveyLoad, .handover] : List NoticeKind).idxOf n.kind)] ++ be16 (noticeEndField s.now
       n.ends).toNat ++ be24 (noticeAgeField ((e.lastHeard - n.receipt) / 1000)).toNat).getD (List.replicate 6 0))))
     t.modem.request = none ∧ (s.modem.queue.length < 4 →
       (t.modem.slot.map CommandSlot.cmd = some (.respond answer) ∨
       .respond answer ∈ t.modem.queue) ∧ t.resp.outstanding = some {
           code := r.code, tag := r.tag, issued := s.now }) ∧ (4 ≤ s.modem.queue.length →
       t.resp.outstanding = none) ∧ answer.length = 33 + 49 * s.peers.length ∧
     leaves [.modem, .resp] s t) ∧
  (∀ (r : Request) (s : State), s.modem.request = some r → s.isModem = true →
     s.resp.outstanding = none → s.modem.link = .up → r.code.toNat = 5 → s.survey.stage ≠ .idle →
     ∃ t, exec .surveyRequest s = .next t ∧
     let answer : List Byte := [r.code, r.tag] ++ [2]
     t.modem.request = none ∧ (s.modem.queue.length < 4 →
       (t.modem.slot.map CommandSlot.cmd = some (.respond answer) ∨
       .respond answer ∈ t.modem.queue) ∧ t.resp.outstanding = some {
           code := r.code, tag := r.tag, issued := s.now }) ∧ (4 ≤ s.modem.queue.length →
       t.resp.outstanding = none) ∧ t.survey = s.survey ∧
     leaves [.modem, .resp] s t) ∧
  (∀ (r : Request) (s : State), s.modem.request = some r → s.isModem = true →
     s.resp.outstanding = none → s.modem.link = .up → r.code.toNat = 5 → s.survey.stage = .idle →
     ¬ (s.portsQuiet = true ∧ s.loop.loop = .opened ∧ s.line.st = .idle ∧ s.ring.call ≠ .inProgress ∧
     s.peerInUse = false ∧ (s.peers.any fun e => decide (e.showsRole = some .training)) = false ∧
     s.hold.role ≠ .training ∧ (s.peers.any fun e => e.notice.any fun n => decide (s.now ≤ n.receipt + 2000)) =
     false) →
     ∃ t, exec .surveyRequest s = .next t ∧
     let answer : List Byte := [r.code, r.tag] ++ [2]
     t.modem.request = none ∧ (s.modem.queue.length < 4 →
       (t.modem.slot.map CommandSlot.cmd = some (.respond answer) ∨
       .respond answer ∈ t.modem.queue) ∧ t.resp.outstanding = some {
           code := r.code, tag := r.tag, issued := s.now }) ∧ (4 ≤ s.modem.queue.length →
       t.resp.outstanding = none) ∧
     t.survey = { s.survey with dueEnd := some (s.now + 60000),
                                deferrals := min 255 (s.survey.deferrals + 1) } ∧
       t.log.rest = (if s.survey.deferrals = 9 then raiseOwn .surveyBlocked none none s else s).log.rest ∧
     leaves [.modem, .resp, .survey, .log] s t) ∧
  (∀ (r : Request) (s : State), s.modem.request = some r → s.isModem = true →
     s.resp.outstanding = none → s.modem.link = .up → r.code.toNat = 5 → s.survey.stage = .idle →
     s.portsQuiet = true ∧ s.loop.loop = .opened ∧ s.line.st = .idle ∧ s.ring.call ≠ .inProgress ∧
     s.peerInUse = false ∧ (s.peers.any fun e => decide (e.showsRole = some .training)) = false ∧
     s.hold.role ≠ .training ∧ (s.peers.any fun e => e.notice.any fun n => decide (s.now ≤ n.receipt + 2000)) =
     false → s.hold.role ≠ .holding →
     ∃ t, exec .surveyRequest s = .next t ∧
     let answer : List Byte := [r.code, r.tag] ++ [2]
     t.modem.request = none ∧ (s.modem.queue.length < 4 →
       (t.modem.slot.map CommandSlot.cmd = some (.respond answer) ∨
       .respond answer ∈ t.modem.queue) ∧ t.resp.outstanding = some {
           code := r.code, tag := r.tag, issued := s.now }) ∧ (4 ≤ s.modem.queue.length →
       t.resp.outstanding = none) ∧
     t.survey = { s.survey with stage := .notice, dueEnd := none, deferrals := 0, lead := some {
                                  placed := s.now, stale := s.chan.noticeInFlight,
                                  sent := none } } ∧ t.chan.noticeSlot = some (mergeNotice s.chan.noticeSlot
       .surveyLoad 5) ∧
     leaves [.modem, .resp, .survey, .channel] s t) ∧
  (∀ (r : Request) (s : State), s.modem.request = some r → s.isModem = true →
     s.resp.outstanding = none → s.modem.link = .up → r.code.toNat = 5 → s.survey.stage = .idle →
     s.portsQuiet = true ∧ s.loop.loop = .opened ∧ s.line.st = .idle ∧ s.ring.call ≠ .inProgress ∧
     s.peerInUse = false ∧ (s.peers.any fun e => decide (e.showsRole = some .training)) = false ∧
     s.hold.role ≠ .training ∧ (s.peers.any fun e => e.notice.any fun n => decide (s.now ≤ n.receipt + 2000)) =
     false → s.hold.role = .holding → s.hold.window = none →
     (s.modem.queue.filter fun x => !x.isBrace).length ≤ 2 → s.modem.queue.length < 4 →
     ∃ t, exec .surveyRequest s = .next t ∧
     let answer : List Byte := [r.code, r.tag] ++ [2]
     t.modem.request = none ∧ (s.modem.queue.length < 4 →
       (t.modem.slot.map CommandSlot.cmd = some (.respond answer) ∨
       .respond answer ∈ t.modem.queue) ∧ t.resp.outstanding = some {
           code := r.code, tag := r.tag, issued := s.now }) ∧ (4 ≤ s.modem.queue.length →
       t.resp.outstanding = none) ∧
     let u := max 5 ((s.chan.noticeSlot.map Prod.snd).getD 0)
     t.hold = { s.hold with window := some { start := s.now, ends := s.now + 100 * min 300 u } } ∧
       t.modem.braced = true ∧
     (t.modem.queue.contains (.brace (min 300 u)) = true ∨
       t.modem.slot.map CommandSlot.cmd = some (.brace (min 300 u))) ∧ t.survey = { s.survey with
           stage := .notice, dueEnd := none, deferrals := 0, lead := some {
             placed := s.now, stale := s.chan.noticeInFlight, sent := none } } ∧
       t.chan.noticeSlot = some (mergeNotice s.chan.noticeSlot .surveyLoad 5) ∧
     leaves [.modem, .resp, .survey, .channel, .hold] s t) ∧
  (∀ (r : Request) (w : BraceWindow) (s : State), s.modem.request = some r → s.hold.window = some w →
     s.isModem = true → s.resp.outstanding = none → s.modem.link = .up → r.code.toNat = 5 →
     s.survey.stage = .idle → s.portsQuiet = true ∧ s.loop.loop = .opened ∧ s.line.st = .idle ∧
     s.ring.call ≠ .inProgress ∧ s.peerInUse = false ∧
     (s.peers.any fun e => decide (e.showsRole = some .training)) = false ∧ s.hold.role ≠ .training ∧
     (s.peers.any fun e => e.notice.any fun n => decide (s.now ≤ n.receipt + 2000)) = false →
     s.hold.role = .holding → s.now ≤ w.ends → w.ends ≤ w.start + 30000 →
     (s.modem.queue.filter fun x => !x.isBrace).length ≤ 2 → s.modem.queue.length < 4 →
     ∃ t, exec .surveyRequest s = .next t ∧
     let answer : List Byte := [r.code, r.tag] ++ [2]
     t.modem.request = none ∧ (s.modem.queue.length < 4 →
       (t.modem.slot.map CommandSlot.cmd = some (.respond answer) ∨
       .respond answer ∈ t.modem.queue) ∧ t.resp.outstanding = some {
           code := r.code, tag := r.tag, issued := s.now }) ∧ (4 ≤ s.modem.queue.length →
       t.resp.outstanding = none) ∧
     let e := min (max w.ends (s.now + 100 * max 5 ((s.chan.noticeSlot.map Prod.snd).getD 0))) (w.start + 30000)
     t.hold = { s.hold with window := some { w with ends := e } } ∧ t.modem.braced = s.modem.braced ∧
     (w.ends < e → (t.modem.queue.contains (.brace ((e - s.now + 99) / 100)) = true ∨
       t.modem.slot.map CommandSlot.cmd = some (.brace ((e - s.now + 99) / 100)))) ∧ t.survey = { s.survey with
           stage := .notice, dueEnd := none, deferrals := 0, lead := some {
             placed := s.now, stale := s.chan.noticeInFlight, sent := none } } ∧
       t.chan.noticeSlot = some (mergeNotice s.chan.noticeSlot .surveyLoad 5) ∧
     leaves [.modem, .resp, .survey, .channel, .hold] s t) ∧
  (∀ (r : Request) (s : State), s.modem.request = some r → s.isModem = true →
     s.resp.outstanding = none → s.modem.link = .up → r.code.toNat = 6 →
     ∃ t, exec .restartRequest s = .next t ∧
     let answer : List Byte := [r.code, r.tag] ++ [2, BitVec.ofNat 8 s.loader.count]
     t.modem.request = none ∧ (s.modem.queue.length < 4 →
       (t.modem.slot.map CommandSlot.cmd = some (.respond answer) ∨
       .respond answer ∈ t.modem.queue) ∧ t.resp.outstanding = some {
           code := r.code, tag := r.tag, issued := s.now }) ∧ (4 ≤ s.modem.queue.length →
       t.resp.outstanding = none) ∧ t.resp.restartEnd = some (s.now + 2000) ∧
     leaves [.modem, .resp] s t) ∧
  (∀ (r : Request) (s : State), s.modem.request = some r → s.isModem = true →
     s.resp.outstanding = none → s.modem.link = .up → r.code.toNat = 0 ∨ 7 ≤ r.code.toNat →
     ∃ t, exec .unknownRequest s = .next t ∧
     let answer : List Byte := [r.code, r.tag] ++ [3]
     t.modem.request = none ∧ (s.modem.queue.length < 4 →
       (t.modem.slot.map CommandSlot.cmd = some (.respond answer) ∨
       .respond answer ∈ t.modem.queue) ∧ t.resp.outstanding = some {
           code := r.code, tag := r.tag, issued := s.now }) ∧ (4 ≤ s.modem.queue.length →
       t.resp.outstanding = none) ∧
     leaves [.modem, .resp] s t) ∧
  (∀ (c : Instr) (s : State), c ∈ ([.summary, .next, .clear, .figures, .surveyRequest,
     .restartRequest, .unknownRequest] : List Instr) → s.isModem = false ∨
     s.modem.request = none ∨ s.resp.outstanding ≠ none ∨ s.modem.link ≠ .up →
     exec c s =
       .next (s)) ∧
  (∀ (lit : Bool) (e : Nat) (s : State), s.lamps.line = .flashing lit e → Settled s → e ≤ s.now →
     exec .lineLampFlash s =
       .next (s.onLamps fun l => { l with line := .flashing (!lit) (e + 500) })) ∧
  (∀ now ends : Nat, (noticeEndField now ends).msb = decide (ends < now)) ∧
  (∀ now ends : Nat, now ≤ ends + 3276800 → ends ≤ now + 3276700 →
     (noticeEndField now ends).toInt * 100 < (ends : Int) - now + 100 ∧
     (ends : Int) - now < (noticeEndField now ends).toInt * 100 + 100) ∧
  (∀ age : Nat, age < 16777216 → (noticeAgeField age).toNat = age) ∧
  (∀ f : Figures, f.bytes = [b8 f.number] ++ be32 f.measured ++ be16 f.vOpen ++ be16 (f.feed.getD 0xFFFF) ++
     [if f.atLimit then 1 else 0] ++ be16 (f.imbalance.getD 0xFFFF) ++ [b8 f.grade] ++ be16 f.offset) ∧
  (∀ n : Nat, b8 n = BitVec.ofNat 8 n ∧ be16 n = [BitVec.ofNat 8 (n / 256), BitVec.ofNat 8 n] ∧
     be24 n = [BitVec.ofNat 8 (n / 65536), BitVec.ofNat 8 (n / 256), BitVec.ofNat 8 n] ∧
     be32 n = [BitVec.ofNat 8 (n / 16777216), BitVec.ofNat 8 (n / 65536), BitVec.ofNat 8 (n / 256),
       BitVec.ofNat 8 n])

/-! ### The figures' arithmetic, the frames, and what holds of every command and every step -/

/-- R141, R142: the means and the feed resistance of the figures record. -/
def Obligations.MeansAndFeedResistance : Prop :=
  ∀ s : State, s.survey.sums.openV ≤ 65520 → s.survey.sums.loadV ≤ 65520 → s.survey.sums.loadI ≤ 65520 →
    s.survey.sums.earthTip ≤ 65520 → s.survey.sums.earthRing ≤ 65520 →
    let vo := (s.survey.sums.openV + 8) / 16
    let vl := (s.survey.sums.loadV + 8) / 16
    let ci := (s.survey.sums.loadI + 8) / 16
    let num := (vo - vl) * 6250 + ci / 2
    s.computeFigures.vOpen = vo ∧ vo ≤ 4095 ∧ vl ≤ 4095 ∧ ci ≤ 4095 ∧
    (s.survey.sums.earthTip + 8) / 16 ≤ 4095 ∧ (s.survey.sums.earthRing + 8) / 16 ≤ 4095 ∧
    (ci < 200 → s.computeFigures.feed = none ∧ s.computeFigures.atLimit = false) ∧
    (200 ≤ ci → vo ≤ vl → s.computeFigures.feed = some 0 ∧ s.computeFigures.atLimit = false) ∧
    (200 ≤ ci → vl < vo → num ≤ 25595797 ∧
      s.computeFigures.feed = some (if num / ci ≤ 9999 then num / ci else 9999) ∧
      s.computeFigures.atLimit = decide (9999 < num / ci))

/-- R143, R144: the earth imbalance and the noise grade of the figures record. -/
def Obligations.ImbalanceAndNoiseGrade : Prop :=
  ∀ s : State, s.survey.sums.earthTip ≤ 65520 → s.survey.sums.earthRing ≤ 65520 → s.survey.sums.noise ≤ 524288 →
    let vt := (s.survey.sums.earthTip + 8) / 16
    let vr := (s.survey.sums.earthRing + 8) / 16
    let diff := (max vt vr) - (min vt vr)
    let num := diff * 1000 + (vt + vr) / 2
    let level := (s.survey.sums.noise + 128) / 256
    (vt + vr < 64 → s.computeFigures.imbalance = none) ∧
    (64 ≤ vt + vr → s.computeFigures.imbalance = some (num / (vt + vr)) ∧ diff ≤ vt + vr ∧ num ≤ 4099095 ∧
      num / (vt + vr) ≤ 1000) ∧
    level ≤ 2048 ∧ s.computeFigures.grade ≤ 15 ∧
    s.computeFigures.grade =
      [2, 3, 4, 6, 8, 11, 16, 23, 32, 45, 64, 91, 128, 181, 256].countP (fun x => decide (x ≤ level))

/-- R42, R51, R53, R65 to R67, R83, R159, R187 to R191: the check value, bit by bit; what a receiver reads of any
body, in range or out of it; and a frame of one station, its fields in their ranges, byte by byte and received whole
by another. A sync is taken whether or not carrier is reported (assumption 50). -/
def Obligations.FramesArriveAsSent : Prop :=
  let kinds : List FrameKind := [.state, .notice, .call, .fault, .survey]
  let causes : List RestartCause := [.power, .remote, .loc]
  let ports : List PortState := [.absent, .idle, .ringing, .connected, .loc, .refused, .lockout]
  let loops : List LoopState := [.opened, .closed, .hold]
  let roles : List Role := [.absent, .quiet, .standby, .training, .holding, .recovering, .resting]
  let notices : List NoticeKind := [.loopClose, .loopOpen, .surveyLoad, .handover]
  let steps : List CallStep := [.offer, .withdrawn, .taken]
  let twoBytes : Nat → List Byte := fun n => [BitVec.ofNat 8 (n / 256), BitVec.ofNat 8 n]
  let bits : List Byte → List Bool := fun l => l.flatMap fun b => (List.range 8).map fun i => b.getLsbD (7 - i)
  let shift : Half → Bool → Half := fun r x => if r.msb = x then r <<< 1 else (r <<< 1) ^^^ 0x1021#16
  (∀ bytes : List Byte, frameCheck bytes = (bits bytes).foldl shift 0xFFFF#16) ∧
  (∀ n : Nat, b8 n = BitVec.ofNat 8 n ∧ noticeKindOf n = notices.getD (n - 1) .loopClose ∧
    frameKindOf n = if n = 0 then none else kinds[n - 1]?) ∧
  kinds.map FrameKind.least = [12, 2, 3, 1, 15] ∧
  (∀ body : List Byte,
    let byte : Nat → Nat := fun i => (body.getD i 0).toNat
    let two : Nat → Nat := fun i => 256 * byte i + byte (i + 1)
    let opt : Nat → Option Nat := fun i => if two i = 65535 then none else some (two i)
    let pair : Nat → Option (Nat × Nat) := fun i =>
      if 1 ≤ byte i / 16 ∧ byte i / 16 ≤ 8 ∧ 1 ≤ byte i % 16 then some (byte i / 16, byte i % 16) else none
    readState body =
      { cause := causes.getD (byte 0) .power, count := byte 1,
        port1 := ports.getD (byte 2 / 16) .absent, port2 := ports.getD (byte 2 % 16) .absent,
        loop := loops.getD (byte 3 % 4) .opened, role := roles.getD (byte 3 / 16 % 8) .absent,
        braced := decide (128 ≤ byte 3), offer := pair 4, took := pair 5,
        clock := if byte 6 = 0 then none else
          some { quality := byte 6, month := byte 7, day := byte 8, hour := byte 9, minute := byte 10 },
        ownFaults := min 32 (byte 11) } ∧
    readNotice body = (notices.getD (byte 0 - 1) .loopClose, max 1 (min 50 (byte 1))) ∧
    readCall body =
      (if 1 ≤ byte 1 ∧ byte 1 ≤ 8 ∧ 1 ≤ byte 2 ∧ byte 2 ≤ 15 ∧ 1 ≤ byte 0 ∧ byte 0 ≤ 3 then
        some (steps.getD (byte 0 - 1) .taken, byte 1, byte 2) else none) ∧
    readSnapshot body =
      { entries := (List.range (min (min 6 (byte 0 % 128)) ((body.length - 1) / 5))).map fun k =>
          { cls := byte (1 + 5 * k), qual := if byte (2 + 5 * k) = 0 then none else some (byte (2 + 5 * k)),
            count := byte (3 + 5 * k), value := opt (4 + 5 * k) },
        more := decide (128 ≤ byte 0) } ∧
    readFigures body =
      { number := byte 0, measured := 65536 * two 1 + two 3, vOpen := min 4095 (two 5),
        feed := (opt 7).map (min 9999),
        atLimit := decide (byte 9 % 2 = 1 ∨ (9999 < two 7 ∧ two 7 ≠ 65535)),
        imbalance := (opt 10).map (min 1000), grade := min 15 (byte 12), offset := min 2000 (two 13) }) ∧
  (∀ (f : Frame) (n : Nat), f.fits = true → 1 ≤ n → n ≤ 8 →
    let ks := kindSenderByte f.kind n
    let covered := ks :: b8 f.body.length :: f.body
    f.body.length = f.bodyLength ∧ f.body.length ≤ 32 ∧
    ks = b8 (8 * (1 + kinds.idxOf f.kind) + (n - 1)) ∧
    f.bytes n = [0xAA, 0xAA, 0xB3, 0x4D] ++ covered ++ twoBytes (frameCheck covered).toNat ∧
    (∀ i : Nat, (wireBits (f.bytes n))[i]? = (f.bytes n)[i / 8]?.map fun b => b.getLsbD (i % 8)) ∧
    (∀ x, f = .state x → f.kind = .state ∧ readState f.body = x ∧
      f.body =
        [b8 (causes.idxOf x.cause), b8 x.count, b8 (16 * ports.idxOf x.port1 + ports.idxOf x.port2),
         b8 ((if x.braced then 128 else 0) + 16 * roles.idxOf x.role + loops.idxOf x.loop),
         b8 ((x.offer.map fun o => 16 * o.1 + o.2).getD 0), b8 ((x.took.map fun o => 16 * o.1 + o.2).getD 0)]
        ++ ((x.clock.map fun c => [b8 c.quality, b8 c.month, b8 c.day, b8 c.hour, b8 c.minute]).getD
          [0, 0, 0, 0, 0]) ++ [b8 x.ownFaults]) ∧
    (∀ k d, f = .notice k d → f.kind = .notice ∧ readNotice f.body = (k, d) ∧
      f.body = [b8 (1 + notices.idxOf k), b8 d]) ∧
    (∀ k x i, f = .call k x i → f.kind = .call ∧ readCall f.body = some (k, x, i) ∧
      f.body = [b8 (1 + steps.idxOf k), b8 x, b8 i]) ∧
    (∀ x, f = .fault x → f.kind = .fault ∧ readSnapshot f.body = x ∧
      f.body = b8 ((if x.more then 128 else 0) + x.entries.length) :: x.entries.flatMap fun e =>
        [b8 e.cls, b8 (e.qual.getD 0), b8 e.count] ++ twoBytes (e.value.getD 65535)) ∧
    (∀ x, f = .survey x → f.kind = .survey ∧ readFigures f.body = x ∧
      f.body = [b8 x.number] ++ twoBytes (x.measured / 65536) ++ twoBytes x.measured ++ twoBytes x.vOpen ++
        twoBytes (x.feed.getD 65535) ++ [if x.atLimit then 1 else 0] ++ twoBytes (x.imbalance.getD 65535) ++
        [b8 x.grade] ++ twoBytes x.offset) ∧
    (∀ s : State, Settled s → s.chan.rx = .hunt → s.chan.slots.length < 2 →
      exec (.syncFound (((wireBits (f.bytes n)).drop 16).take 16)) s =
        .next (s.onChan fun c => { c with rx := .frame, slots := c.slots ++ [.filling] })) ∧
    (∀ s : State, Settled s → n ≠ s.own → s.chan.rx = .frame → s.chan.slots.contains .filling = true →
      exec (.frameEnd ks f.body (frameCheck covered)) s =
        .next (s.onChan fun c =>
          { c with rx := .hunt, received := min 65535 (c.received + 1),
                   slots := c.slots.map fun x => if x = .filling then
                     .delivered { kind := f.kind, sender := n, body := f.body } else x })))

/-- R61, R62, R156, R158: whatever the command, a change of an announced field places a STATE, a change of the FAULT
snapshot places a FAULT, and nothing else but the timer, power-up and a restart places a STATE. That the end of an
event is compared with its beginning, so that a field which changes and changes back places no STATE, and the mark
snapshotAsked, are the model's (assumption 31). -/
def Obligations.EveryChangeIsAnnounced : Prop :=
  ∀ (c : Instr) (s t : State), exec c s = .next t →
    (t.announced ≠ s.announced → t.chan.stateSlot = some t.stateFields ∧
      t.announce.timerEnd = some (t.now + 1000 * t.profile.announceInterval)) ∧
    (t.announced = s.announced → (∀ straps memory, c ≠ .powerUp straps memory) → c ≠ .announceTimerExpiry →
      (∀ cause, ¬ restartsBy c cause s) →
      t.announce = s.announce) ∧
    (s.log.snapshotAsked = false → t.log.snapshotAsked = false) ∧
    (t.log.snapshot ≠ s.log.snapshot → (∀ straps memory, c ≠ .powerUp straps memory) →
      t.chan.faultSlot = some t.log.snapshot)

/-- R1, R13, R14, R15, R23, R101, R178, R179: every step keeps the ports' rules, the sender's and the lamps'. -/
def Obligations.PortsAndLampsKept : Prop :=
  ∀ s t : State, PortsOk s → Settled s → step s = .next t → PortsOk t ∧ Settled t

/-- R26, R27, R30, R31, R33, R36: every step keeps the ringing rules. The mark windowOpened is the model's own
(assumption 49). -/
def Obligations.RingingKept : Prop :=
  ∀ s t : State, RingOk s → step s = .next t → RingOk t

/-- R77, R82, R84, R87, R91, R138: every step keeps the loop's rules and the law of the test load. -/
def Obligations.LoopAndSurveyKept : Prop :=
  ∀ s t : State, PortsOk s → LoopOk s → SurveyOk s → step s = .next t → LoopOk t ∧ SurveyOk t

/-- R43 to R47, R51, R54, R63, R64, R69, R70: every step keeps the transceiver's and the peer table's rules. -/
def Obligations.ChannelAndPeersKept : Prop :=
  ∀ s t : State, ChannelOk s → PeersOk s → step s = .next t → ChannelOk t ∧ PeersOk t

/-- R101 to R103, R110, R117, R119, R120, R125, R126: every step keeps the modem queue's and the holding controller's
rules. -/
def Obligations.HoldingKept : Prop :=
  ∀ s t : State, ChannelOk s → PeersOk s → QueueOk s → HoldOk s → step s = .next t → QueueOk t ∧ HoldOk t

/-- R151 to R153, R155: every step keeps the fault log's rules. -/
def Obligations.LogKept : Prop :=
  ∀ s t : State, LogOk s.log → step s = .next t → LogOk t.log

/-- The state after reset has every invariant of the statements above. -/
def Obligations.ResetKeepsEveryRule : Prop :=
  PortsOk State.reset ∧ Settled State.reset ∧ RingOk State.reset ∧ LoopOk State.reset ∧ SurveyOk State.reset ∧
  ChannelOk State.reset ∧ PeersOk State.reset ∧ QueueOk State.reset ∧ HoldOk State.reset ∧
    LogOk State.reset.log ∧ ClockOk State.reset ∧ LineOk State.reset
end

