-- ==== Sys2Proof/Laws/State.lean ====
section
/-! SUPPORT. One lemma per field per update of the state, true by computation, so that no later proof unfolds a record
update. -/

namespace Sys2Proof.Machine

/-! ### State.onSender -/

section
variable (f : ToneSender → ToneSender) (s : State)

@[simp] theorem onSender_port1 : (s.onSender f).port1 = s.port1 := rfl
@[simp] theorem onSender_port2 : (s.onSender f).port2 = s.port2 := rfl
@[simp] theorem onSender_sender : (s.onSender f).sender = f s.sender := rfl
@[simp] theorem onSender_ring : (s.onSender f).ring = s.ring := rfl
@[simp] theorem onSender_line : (s.onSender f).line = s.line := rfl
@[simp] theorem onSender_loop : (s.onSender f).loop = s.loop := rfl
@[simp] theorem onSender_chan : (s.onSender f).chan = s.chan := rfl
@[simp] theorem onSender_announce : (s.onSender f).announce = s.announce := rfl
@[simp] theorem onSender_peers : (s.onSender f).peers = s.peers := rfl
@[simp] theorem onSender_time : (s.onSender f).time = s.time := rfl
@[simp] theorem onSender_modem : (s.onSender f).modem = s.modem := rfl
@[simp] theorem onSender_hold : (s.onSender f).hold = s.hold := rfl
@[simp] theorem onSender_survey : (s.onSender f).survey = s.survey := rfl
@[simp] theorem onSender_log : (s.onSender f).log = s.log := rfl
@[simp] theorem onSender_resp : (s.onSender f).resp = s.resp := rfl
@[simp] theorem onSender_loader : (s.onSender f).loader = s.loader := rfl
@[simp] theorem onSender_lamps : (s.onSender f).lamps = s.lamps := rfl
@[simp] theorem onSender_pending : (s.onSender f).pending = s.pending := rfl
@[simp] theorem onSender_port (p : PortId) : (s.onSender f).port p = s.port p := by cases p <;> rfl
@[simp] theorem onSender_ringOf (p : PortId) : (s.onSender f).ringOf p = s.ringOf p := rfl
@[simp] theorem onSender_now : (s.onSender f).now = s.now := rfl
@[simp] theorem onSender_secs : (s.onSender f).secs = s.secs := rfl
@[simp] theorem onSender_own : (s.onSender f).own = s.own := rfl
@[simp] theorem onSender_isModem : (s.onSender f).isModem = s.isModem := rfl
@[simp] theorem onSender_profile : (s.onSender f).profile = s.profile := rfl

end

/-! ### State.onRing -/

section
variable (f : RingUnit → RingUnit) (s : State)

@[simp] theorem onRing_port1 : (s.onRing f).port1 = s.port1 := rfl
@[simp] theorem onRing_port2 : (s.onRing f).port2 = s.port2 := rfl
@[simp] theorem onRing_sender : (s.onRing f).sender = s.sender := rfl
@[simp] theorem onRing_ring : (s.onRing f).ring = f s.ring := rfl
@[simp] theorem onRing_line : (s.onRing f).line = s.line := rfl
@[simp] theorem onRing_loop : (s.onRing f).loop = s.loop := rfl
@[simp] theorem onRing_chan : (s.onRing f).chan = s.chan := rfl
@[simp] theorem onRing_announce : (s.onRing f).announce = s.announce := rfl
@[simp] theorem onRing_peers : (s.onRing f).peers = s.peers := rfl
@[simp] theorem onRing_time : (s.onRing f).time = s.time := rfl
@[simp] theorem onRing_modem : (s.onRing f).modem = s.modem := rfl
@[simp] theorem onRing_hold : (s.onRing f).hold = s.hold := rfl
@[simp] theorem onRing_survey : (s.onRing f).survey = s.survey := rfl
@[simp] theorem onRing_log : (s.onRing f).log = s.log := rfl
@[simp] theorem onRing_resp : (s.onRing f).resp = s.resp := rfl
@[simp] theorem onRing_loader : (s.onRing f).loader = s.loader := rfl
@[simp] theorem onRing_lamps : (s.onRing f).lamps = s.lamps := rfl
@[simp] theorem onRing_pending : (s.onRing f).pending = s.pending := rfl
@[simp] theorem onRing_port (p : PortId) : (s.onRing f).port p = s.port p := by cases p <;> rfl
@[simp] theorem onRing_ringOf (p : PortId) : (s.onRing f).ringOf p = (f s.ring).of p := rfl
@[simp] theorem onRing_now : (s.onRing f).now = s.now := rfl
@[simp] theorem onRing_secs : (s.onRing f).secs = s.secs := rfl
@[simp] theorem onRing_own : (s.onRing f).own = s.own := rfl
@[simp] theorem onRing_isModem : (s.onRing f).isModem = s.isModem := rfl
@[simp] theorem onRing_profile : (s.onRing f).profile = s.profile := rfl

end

/-! ### State.onLine -/

section
variable (f : LineMonitor → LineMonitor) (s : State)

@[simp] theorem onLine_port1 : (s.onLine f).port1 = s.port1 := rfl
@[simp] theorem onLine_port2 : (s.onLine f).port2 = s.port2 := rfl
@[simp] theorem onLine_sender : (s.onLine f).sender = s.sender := rfl
@[simp] theorem onLine_ring : (s.onLine f).ring = s.ring := rfl
@[simp] theorem onLine_line : (s.onLine f).line = f s.line := rfl
@[simp] theorem onLine_loop : (s.onLine f).loop = s.loop := rfl
@[simp] theorem onLine_chan : (s.onLine f).chan = s.chan := rfl
@[simp] theorem onLine_announce : (s.onLine f).announce = s.announce := rfl
@[simp] theorem onLine_peers : (s.onLine f).peers = s.peers := rfl
@[simp] theorem onLine_time : (s.onLine f).time = s.time := rfl
@[simp] theorem onLine_modem : (s.onLine f).modem = s.modem := rfl
@[simp] theorem onLine_hold : (s.onLine f).hold = s.hold := rfl
@[simp] theorem onLine_survey : (s.onLine f).survey = s.survey := rfl
@[simp] theorem onLine_log : (s.onLine f).log = s.log := rfl
@[simp] theorem onLine_resp : (s.onLine f).resp = s.resp := rfl
@[simp] theorem onLine_loader : (s.onLine f).loader = s.loader := rfl
@[simp] theorem onLine_lamps : (s.onLine f).lamps = s.lamps := rfl
@[simp] theorem onLine_pending : (s.onLine f).pending = s.pending := rfl
@[simp] theorem onLine_port (p : PortId) : (s.onLine f).port p = s.port p := by cases p <;> rfl
@[simp] theorem onLine_ringOf (p : PortId) : (s.onLine f).ringOf p = s.ringOf p := rfl
@[simp] theorem onLine_now : (s.onLine f).now = s.now := rfl
@[simp] theorem onLine_secs : (s.onLine f).secs = s.secs := rfl
@[simp] theorem onLine_own : (s.onLine f).own = s.own := rfl
@[simp] theorem onLine_isModem : (s.onLine f).isModem = s.isModem := rfl
@[simp] theorem onLine_profile : (s.onLine f).profile = s.profile := rfl

end

/-! ### State.onLoop -/

section
variable (f : LoopUnit → LoopUnit) (s : State)

@[simp] theorem onLoop_port1 : (s.onLoop f).port1 = s.port1 := rfl
@[simp] theorem onLoop_port2 : (s.onLoop f).port2 = s.port2 := rfl
@[simp] theorem onLoop_sender : (s.onLoop f).sender = s.sender := rfl
@[simp] theorem onLoop_ring : (s.onLoop f).ring = s.ring := rfl
@[simp] theorem onLoop_line : (s.onLoop f).line = s.line := rfl
@[simp] theorem onLoop_loop : (s.onLoop f).loop = f s.loop := rfl
@[simp] theorem onLoop_chan : (s.onLoop f).chan = s.chan := rfl
@[simp] theorem onLoop_announce : (s.onLoop f).announce = s.announce := rfl
@[simp] theorem onLoop_peers : (s.onLoop f).peers = s.peers := rfl
@[simp] theorem onLoop_time : (s.onLoop f).time = s.time := rfl
@[simp] theorem onLoop_modem : (s.onLoop f).modem = s.modem := rfl
@[simp] theorem onLoop_hold : (s.onLoop f).hold = s.hold := rfl
@[simp] theorem onLoop_survey : (s.onLoop f).survey = s.survey := rfl
@[simp] theorem onLoop_log : (s.onLoop f).log = s.log := rfl
@[simp] theorem onLoop_resp : (s.onLoop f).resp = s.resp := rfl
@[simp] theorem onLoop_loader : (s.onLoop f).loader = s.loader := rfl
@[simp] theorem onLoop_lamps : (s.onLoop f).lamps = s.lamps := rfl
@[simp] theorem onLoop_pending : (s.onLoop f).pending = s.pending := rfl
@[simp] theorem onLoop_port (p : PortId) : (s.onLoop f).port p = s.port p := by cases p <;> rfl
@[simp] theorem onLoop_ringOf (p : PortId) : (s.onLoop f).ringOf p = s.ringOf p := rfl
@[simp] theorem onLoop_now : (s.onLoop f).now = s.now := rfl
@[simp] theorem onLoop_secs : (s.onLoop f).secs = s.secs := rfl
@[simp] theorem onLoop_own : (s.onLoop f).own = s.own := rfl
@[simp] theorem onLoop_isModem : (s.onLoop f).isModem = s.isModem := rfl
@[simp] theorem onLoop_profile : (s.onLoop f).profile = s.profile := rfl

end

/-! ### State.onChan -/

section
variable (f : Channel → Channel) (s : State)

@[simp] theorem onChan_port1 : (s.onChan f).port1 = s.port1 := rfl
@[simp] theorem onChan_port2 : (s.onChan f).port2 = s.port2 := rfl
@[simp] theorem onChan_sender : (s.onChan f).sender = s.sender := rfl
@[simp] theorem onChan_ring : (s.onChan f).ring = s.ring := rfl
@[simp] theorem onChan_line : (s.onChan f).line = s.line := rfl
@[simp] theorem onChan_loop : (s.onChan f).loop = s.loop := rfl
@[simp] theorem onChan_chan : (s.onChan f).chan = f s.chan := rfl
@[simp] theorem onChan_announce : (s.onChan f).announce = s.announce := rfl
@[simp] theorem onChan_peers : (s.onChan f).peers = s.peers := rfl
@[simp] theorem onChan_time : (s.onChan f).time = s.time := rfl
@[simp] theorem onChan_modem : (s.onChan f).modem = s.modem := rfl
@[simp] theorem onChan_hold : (s.onChan f).hold = s.hold := rfl
@[simp] theorem onChan_survey : (s.onChan f).survey = s.survey := rfl
@[simp] theorem onChan_log : (s.onChan f).log = s.log := rfl
@[simp] theorem onChan_resp : (s.onChan f).resp = s.resp := rfl
@[simp] theorem onChan_loader : (s.onChan f).loader = s.loader := rfl
@[simp] theorem onChan_lamps : (s.onChan f).lamps = s.lamps := rfl
@[simp] theorem onChan_pending : (s.onChan f).pending = s.pending := rfl
@[simp] theorem onChan_port (p : PortId) : (s.onChan f).port p = s.port p := by cases p <;> rfl
@[simp] theorem onChan_ringOf (p : PortId) : (s.onChan f).ringOf p = s.ringOf p := rfl
@[simp] theorem onChan_now : (s.onChan f).now = s.now := rfl
@[simp] theorem onChan_secs : (s.onChan f).secs = s.secs := rfl
@[simp] theorem onChan_own : (s.onChan f).own = s.own := rfl
@[simp] theorem onChan_isModem : (s.onChan f).isModem = s.isModem := rfl
@[simp] theorem onChan_profile : (s.onChan f).profile = s.profile := rfl

end

/-! ### State.onAnnounce -/

section
variable (f : Announce → Announce) (s : State)

@[simp] theorem onAnnounce_port1 : (s.onAnnounce f).port1 = s.port1 := rfl
@[simp] theorem onAnnounce_port2 : (s.onAnnounce f).port2 = s.port2 := rfl
@[simp] theorem onAnnounce_sender : (s.onAnnounce f).sender = s.sender := rfl
@[simp] theorem onAnnounce_ring : (s.onAnnounce f).ring = s.ring := rfl
@[simp] theorem onAnnounce_line : (s.onAnnounce f).line = s.line := rfl
@[simp] theorem onAnnounce_loop : (s.onAnnounce f).loop = s.loop := rfl
@[simp] theorem onAnnounce_chan : (s.onAnnounce f).chan = s.chan := rfl
@[simp] theorem onAnnounce_announce : (s.onAnnounce f).announce = f s.announce := rfl
@[simp] theorem onAnnounce_peers : (s.onAnnounce f).peers = s.peers := rfl
@[simp] theorem onAnnounce_time : (s.onAnnounce f).time = s.time := rfl
@[simp] theorem onAnnounce_modem : (s.onAnnounce f).modem = s.modem := rfl
@[simp] theorem onAnnounce_hold : (s.onAnnounce f).hold = s.hold := rfl
@[simp] theorem onAnnounce_survey : (s.onAnnounce f).survey = s.survey := rfl
@[simp] theorem onAnnounce_log : (s.onAnnounce f).log = s.log := rfl
@[simp] theorem onAnnounce_resp : (s.onAnnounce f).resp = s.resp := rfl
@[simp] theorem onAnnounce_loader : (s.onAnnounce f).loader = s.loader := rfl
@[simp] theorem onAnnounce_lamps : (s.onAnnounce f).lamps = s.lamps := rfl
@[simp] theorem onAnnounce_pending : (s.onAnnounce f).pending = s.pending := rfl
@[simp] theorem onAnnounce_port (p : PortId) : (s.onAnnounce f).port p = s.port p := by cases p <;> rfl
@[simp] theorem onAnnounce_ringOf (p : PortId) : (s.onAnnounce f).ringOf p = s.ringOf p := rfl
@[simp] theorem onAnnounce_now : (s.onAnnounce f).now = s.now := rfl
@[simp] theorem onAnnounce_secs : (s.onAnnounce f).secs = s.secs := rfl
@[simp] theorem onAnnounce_own : (s.onAnnounce f).own = s.own := rfl
@[simp] theorem onAnnounce_isModem : (s.onAnnounce f).isModem = s.isModem := rfl
@[simp] theorem onAnnounce_profile : (s.onAnnounce f).profile = s.profile := rfl

end

/-! ### State.onPeers -/

section
variable (f : List Peer → List Peer) (s : State)

@[simp] theorem onPeers_port1 : (s.onPeers f).port1 = s.port1 := rfl
@[simp] theorem onPeers_port2 : (s.onPeers f).port2 = s.port2 := rfl
@[simp] theorem onPeers_sender : (s.onPeers f).sender = s.sender := rfl
@[simp] theorem onPeers_ring : (s.onPeers f).ring = s.ring := rfl
@[simp] theorem onPeers_line : (s.onPeers f).line = s.line := rfl
@[simp] theorem onPeers_loop : (s.onPeers f).loop = s.loop := rfl
@[simp] theorem onPeers_chan : (s.onPeers f).chan = s.chan := rfl
@[simp] theorem onPeers_announce : (s.onPeers f).announce = s.announce := rfl
@[simp] theorem onPeers_peers : (s.onPeers f).peers = f s.peers := rfl
@[simp] theorem onPeers_time : (s.onPeers f).time = s.time := rfl
@[simp] theorem onPeers_modem : (s.onPeers f).modem = s.modem := rfl
@[simp] theorem onPeers_hold : (s.onPeers f).hold = s.hold := rfl
@[simp] theorem onPeers_survey : (s.onPeers f).survey = s.survey := rfl
@[simp] theorem onPeers_log : (s.onPeers f).log = s.log := rfl
@[simp] theorem onPeers_resp : (s.onPeers f).resp = s.resp := rfl
@[simp] theorem onPeers_loader : (s.onPeers f).loader = s.loader := rfl
@[simp] theorem onPeers_lamps : (s.onPeers f).lamps = s.lamps := rfl
@[simp] theorem onPeers_pending : (s.onPeers f).pending = s.pending := rfl
@[simp] theorem onPeers_port (p : PortId) : (s.onPeers f).port p = s.port p := by cases p <;> rfl
@[simp] theorem onPeers_ringOf (p : PortId) : (s.onPeers f).ringOf p = s.ringOf p := rfl
@[simp] theorem onPeers_now : (s.onPeers f).now = s.now := rfl
@[simp] theorem onPeers_secs : (s.onPeers f).secs = s.secs := rfl
@[simp] theorem onPeers_own : (s.onPeers f).own = s.own := rfl
@[simp] theorem onPeers_isModem : (s.onPeers f).isModem = s.isModem := rfl
@[simp] theorem onPeers_profile : (s.onPeers f).profile = s.profile := rfl

end

/-! ### State.onTime -/

section
variable (f : TimeKeeping → TimeKeeping) (s : State)

@[simp] theorem onTime_port1 : (s.onTime f).port1 = s.port1 := rfl
@[simp] theorem onTime_port2 : (s.onTime f).port2 = s.port2 := rfl
@[simp] theorem onTime_sender : (s.onTime f).sender = s.sender := rfl
@[simp] theorem onTime_ring : (s.onTime f).ring = s.ring := rfl
@[simp] theorem onTime_line : (s.onTime f).line = s.line := rfl
@[simp] theorem onTime_loop : (s.onTime f).loop = s.loop := rfl
@[simp] theorem onTime_chan : (s.onTime f).chan = s.chan := rfl
@[simp] theorem onTime_announce : (s.onTime f).announce = s.announce := rfl
@[simp] theorem onTime_peers : (s.onTime f).peers = s.peers := rfl
@[simp] theorem onTime_time : (s.onTime f).time = f s.time := rfl
@[simp] theorem onTime_modem : (s.onTime f).modem = s.modem := rfl
@[simp] theorem onTime_hold : (s.onTime f).hold = s.hold := rfl
@[simp] theorem onTime_survey : (s.onTime f).survey = s.survey := rfl
@[simp] theorem onTime_log : (s.onTime f).log = s.log := rfl
@[simp] theorem onTime_resp : (s.onTime f).resp = s.resp := rfl
@[simp] theorem onTime_loader : (s.onTime f).loader = s.loader := rfl
@[simp] theorem onTime_lamps : (s.onTime f).lamps = s.lamps := rfl
@[simp] theorem onTime_pending : (s.onTime f).pending = s.pending := rfl
@[simp] theorem onTime_port (p : PortId) : (s.onTime f).port p = s.port p := by cases p <;> rfl
@[simp] theorem onTime_ringOf (p : PortId) : (s.onTime f).ringOf p = s.ringOf p := rfl
@[simp] theorem onTime_own : (s.onTime f).own = s.own := rfl
@[simp] theorem onTime_isModem : (s.onTime f).isModem = s.isModem := rfl
@[simp] theorem onTime_profile : (s.onTime f).profile = s.profile := rfl

end

/-! ### State.onModem -/

section
variable (f : ModemPort → ModemPort) (s : State)

@[simp] theorem onModem_port1 : (s.onModem f).port1 = s.port1 := rfl
@[simp] theorem onModem_port2 : (s.onModem f).port2 = s.port2 := rfl
@[simp] theorem onModem_sender : (s.onModem f).sender = s.sender := rfl
@[simp] theorem onModem_ring : (s.onModem f).ring = s.ring := rfl
@[simp] theorem onModem_line : (s.onModem f).line = s.line := rfl
@[simp] theorem onModem_loop : (s.onModem f).loop = s.loop := rfl
@[simp] theorem onModem_chan : (s.onModem f).chan = s.chan := rfl
@[simp] theorem onModem_announce : (s.onModem f).announce = s.announce := rfl
@[simp] theorem onModem_peers : (s.onModem f).peers = s.peers := rfl
@[simp] theorem onModem_time : (s.onModem f).time = s.time := rfl
@[simp] theorem onModem_modem : (s.onModem f).modem = f s.modem := rfl
@[simp] theorem onModem_hold : (s.onModem f).hold = s.hold := rfl
@[simp] theorem onModem_survey : (s.onModem f).survey = s.survey := rfl
@[simp] theorem onModem_log : (s.onModem f).log = s.log := rfl
@[simp] theorem onModem_resp : (s.onModem f).resp = s.resp := rfl
@[simp] theorem onModem_loader : (s.onModem f).loader = s.loader := rfl
@[simp] theorem onModem_lamps : (s.onModem f).lamps = s.lamps := rfl
@[simp] theorem onModem_pending : (s.onModem f).pending = s.pending := rfl
@[simp] theorem onModem_port (p : PortId) : (s.onModem f).port p = s.port p := by cases p <;> rfl
@[simp] theorem onModem_ringOf (p : PortId) : (s.onModem f).ringOf p = s.ringOf p := rfl
@[simp] theorem onModem_now : (s.onModem f).now = s.now := rfl
@[simp] theorem onModem_secs : (s.onModem f).secs = s.secs := rfl
@[simp] theorem onModem_own : (s.onModem f).own = s.own := rfl
@[simp] theorem onModem_isModem : (s.onModem f).isModem = s.isModem := rfl
@[simp] theorem onModem_profile : (s.onModem f).profile = s.profile := rfl

end

/-! ### State.onHold -/

section
variable (f : Holding → Holding) (s : State)

@[simp] theorem onHold_port1 : (s.onHold f).port1 = s.port1 := rfl
@[simp] theorem onHold_port2 : (s.onHold f).port2 = s.port2 := rfl
@[simp] theorem onHold_sender : (s.onHold f).sender = s.sender := rfl
@[simp] theorem onHold_ring : (s.onHold f).ring = s.ring := rfl
@[simp] theorem onHold_line : (s.onHold f).line = s.line := rfl
@[simp] theorem onHold_loop : (s.onHold f).loop = s.loop := rfl
@[simp] theorem onHold_chan : (s.onHold f).chan = s.chan := rfl
@[simp] theorem onHold_announce : (s.onHold f).announce = s.announce := rfl
@[simp] theorem onHold_peers : (s.onHold f).peers = s.peers := rfl
@[simp] theorem onHold_time : (s.onHold f).time = s.time := rfl
@[simp] theorem onHold_modem : (s.onHold f).modem = s.modem := rfl
@[simp] theorem onHold_hold : (s.onHold f).hold = f s.hold := rfl
@[simp] theorem onHold_survey : (s.onHold f).survey = s.survey := rfl
@[simp] theorem onHold_log : (s.onHold f).log = s.log := rfl
@[simp] theorem onHold_resp : (s.onHold f).resp = s.resp := rfl
@[simp] theorem onHold_loader : (s.onHold f).loader = s.loader := rfl
@[simp] theorem onHold_lamps : (s.onHold f).lamps = s.lamps := rfl
@[simp] theorem onHold_pending : (s.onHold f).pending = s.pending := rfl
@[simp] theorem onHold_port (p : PortId) : (s.onHold f).port p = s.port p := by cases p <;> rfl
@[simp] theorem onHold_ringOf (p : PortId) : (s.onHold f).ringOf p = s.ringOf p := rfl
@[simp] theorem onHold_now : (s.onHold f).now = s.now := rfl
@[simp] theorem onHold_secs : (s.onHold f).secs = s.secs := rfl
@[simp] theorem onHold_own : (s.onHold f).own = s.own := rfl
@[simp] theorem onHold_isModem : (s.onHold f).isModem = s.isModem := rfl
@[simp] theorem onHold_profile : (s.onHold f).profile = s.profile := rfl

end

/-! ### State.onSurvey -/

section
variable (f : Survey → Survey) (s : State)

@[simp] theorem onSurvey_port1 : (s.onSurvey f).port1 = s.port1 := rfl
@[simp] theorem onSurvey_port2 : (s.onSurvey f).port2 = s.port2 := rfl
@[simp] theorem onSurvey_sender : (s.onSurvey f).sender = s.sender := rfl
@[simp] theorem onSurvey_ring : (s.onSurvey f).ring = s.ring := rfl
@[simp] theorem onSurvey_line : (s.onSurvey f).line = s.line := rfl
@[simp] theorem onSurvey_loop : (s.onSurvey f).loop = s.loop := rfl
@[simp] theorem onSurvey_chan : (s.onSurvey f).chan = s.chan := rfl
@[simp] theorem onSurvey_announce : (s.onSurvey f).announce = s.announce := rfl
@[simp] theorem onSurvey_peers : (s.onSurvey f).peers = s.peers := rfl
@[simp] theorem onSurvey_time : (s.onSurvey f).time = s.time := rfl
@[simp] theorem onSurvey_modem : (s.onSurvey f).modem = s.modem := rfl
@[simp] theorem onSurvey_hold : (s.onSurvey f).hold = s.hold := rfl
@[simp] theorem onSurvey_survey : (s.onSurvey f).survey = f s.survey := rfl
@[simp] theorem onSurvey_log : (s.onSurvey f).log = s.log := rfl
@[simp] theorem onSurvey_resp : (s.onSurvey f).resp = s.resp := rfl
@[simp] theorem onSurvey_loader : (s.onSurvey f).loader = s.loader := rfl
@[simp] theorem onSurvey_lamps : (s.onSurvey f).lamps = s.lamps := rfl
@[simp] theorem onSurvey_pending : (s.onSurvey f).pending = s.pending := rfl
@[simp] theorem onSurvey_port (p : PortId) : (s.onSurvey f).port p = s.port p := by cases p <;> rfl
@[simp] theorem onSurvey_ringOf (p : PortId) : (s.onSurvey f).ringOf p = s.ringOf p := rfl
@[simp] theorem onSurvey_now : (s.onSurvey f).now = s.now := rfl
@[simp] theorem onSurvey_secs : (s.onSurvey f).secs = s.secs := rfl
@[simp] theorem onSurvey_own : (s.onSurvey f).own = s.own := rfl
@[simp] theorem onSurvey_isModem : (s.onSurvey f).isModem = s.isModem := rfl
@[simp] theorem onSurvey_profile : (s.onSurvey f).profile = s.profile := rfl

end

/-! ### State.onLog -/

section
variable (f : FaultLog → FaultLog) (s : State)

@[simp] theorem onLog_port1 : (s.onLog f).port1 = s.port1 := rfl
@[simp] theorem onLog_port2 : (s.onLog f).port2 = s.port2 := rfl
@[simp] theorem onLog_sender : (s.onLog f).sender = s.sender := rfl
@[simp] theorem onLog_ring : (s.onLog f).ring = s.ring := rfl
@[simp] theorem onLog_line : (s.onLog f).line = s.line := rfl
@[simp] theorem onLog_loop : (s.onLog f).loop = s.loop := rfl
@[simp] theorem onLog_chan : (s.onLog f).chan = s.chan := rfl
@[simp] theorem onLog_announce : (s.onLog f).announce = s.announce := rfl
@[simp] theorem onLog_peers : (s.onLog f).peers = s.peers := rfl
@[simp] theorem onLog_time : (s.onLog f).time = s.time := rfl
@[simp] theorem onLog_modem : (s.onLog f).modem = s.modem := rfl
@[simp] theorem onLog_hold : (s.onLog f).hold = s.hold := rfl
@[simp] theorem onLog_survey : (s.onLog f).survey = s.survey := rfl
@[simp] theorem onLog_log : (s.onLog f).log = f s.log := rfl
@[simp] theorem onLog_resp : (s.onLog f).resp = s.resp := rfl
@[simp] theorem onLog_loader : (s.onLog f).loader = s.loader := rfl
@[simp] theorem onLog_lamps : (s.onLog f).lamps = s.lamps := rfl
@[simp] theorem onLog_pending : (s.onLog f).pending = s.pending := rfl
@[simp] theorem onLog_port (p : PortId) : (s.onLog f).port p = s.port p := by cases p <;> rfl
@[simp] theorem onLog_ringOf (p : PortId) : (s.onLog f).ringOf p = s.ringOf p := rfl
@[simp] theorem onLog_now : (s.onLog f).now = s.now := rfl
@[simp] theorem onLog_secs : (s.onLog f).secs = s.secs := rfl
@[simp] theorem onLog_own : (s.onLog f).own = s.own := rfl
@[simp] theorem onLog_isModem : (s.onLog f).isModem = s.isModem := rfl
@[simp] theorem onLog_profile : (s.onLog f).profile = s.profile := rfl

end

/-! ### State.onResp -/

section
variable (f : Responder → Responder) (s : State)

@[simp] theorem onResp_port1 : (s.onResp f).port1 = s.port1 := rfl
@[simp] theorem onResp_port2 : (s.onResp f).port2 = s.port2 := rfl
@[simp] theorem onResp_sender : (s.onResp f).sender = s.sender := rfl
@[simp] theorem onResp_ring : (s.onResp f).ring = s.ring := rfl
@[simp] theorem onResp_line : (s.onResp f).line = s.line := rfl
@[simp] theorem onResp_loop : (s.onResp f).loop = s.loop := rfl
@[simp] theorem onResp_chan : (s.onResp f).chan = s.chan := rfl
@[simp] theorem onResp_announce : (s.onResp f).announce = s.announce := rfl
@[simp] theorem onResp_peers : (s.onResp f).peers = s.peers := rfl
@[simp] theorem onResp_time : (s.onResp f).time = s.time := rfl
@[simp] theorem onResp_modem : (s.onResp f).modem = s.modem := rfl
@[simp] theorem onResp_hold : (s.onResp f).hold = s.hold := rfl
@[simp] theorem onResp_survey : (s.onResp f).survey = s.survey := rfl
@[simp] theorem onResp_log : (s.onResp f).log = s.log := rfl
@[simp] theorem onResp_resp : (s.onResp f).resp = f s.resp := rfl
@[simp] theorem onResp_loader : (s.onResp f).loader = s.loader := rfl
@[simp] theorem onResp_lamps : (s.onResp f).lamps = s.lamps := rfl
@[simp] theorem onResp_pending : (s.onResp f).pending = s.pending := rfl
@[simp] theorem onResp_port (p : PortId) : (s.onResp f).port p = s.port p := by cases p <;> rfl
@[simp] theorem onResp_ringOf (p : PortId) : (s.onResp f).ringOf p = s.ringOf p := rfl
@[simp] theorem onResp_now : (s.onResp f).now = s.now := rfl
@[simp] theorem onResp_secs : (s.onResp f).secs = s.secs := rfl
@[simp] theorem onResp_own : (s.onResp f).own = s.own := rfl
@[simp] theorem onResp_isModem : (s.onResp f).isModem = s.isModem := rfl
@[simp] theorem onResp_profile : (s.onResp f).profile = s.profile := rfl

end

/-! ### State.onLoader -/

section
variable (f : Loader → Loader) (s : State)

@[simp] theorem onLoader_port1 : (s.onLoader f).port1 = s.port1 := rfl
@[simp] theorem onLoader_port2 : (s.onLoader f).port2 = s.port2 := rfl
@[simp] theorem onLoader_sender : (s.onLoader f).sender = s.sender := rfl
@[simp] theorem onLoader_ring : (s.onLoader f).ring = s.ring := rfl
@[simp] theorem onLoader_line : (s.onLoader f).line = s.line := rfl
@[simp] theorem onLoader_loop : (s.onLoader f).loop = s.loop := rfl
@[simp] theorem onLoader_chan : (s.onLoader f).chan = s.chan := rfl
@[simp] theorem onLoader_announce : (s.onLoader f).announce = s.announce := rfl
@[simp] theorem onLoader_peers : (s.onLoader f).peers = s.peers := rfl
@[simp] theorem onLoader_time : (s.onLoader f).time = s.time := rfl
@[simp] theorem onLoader_modem : (s.onLoader f).modem = s.modem := rfl
@[simp] theorem onLoader_hold : (s.onLoader f).hold = s.hold := rfl
@[simp] theorem onLoader_survey : (s.onLoader f).survey = s.survey := rfl
@[simp] theorem onLoader_log : (s.onLoader f).log = s.log := rfl
@[simp] theorem onLoader_resp : (s.onLoader f).resp = s.resp := rfl
@[simp] theorem onLoader_loader : (s.onLoader f).loader = f s.loader := rfl
@[simp] theorem onLoader_lamps : (s.onLoader f).lamps = s.lamps := rfl
@[simp] theorem onLoader_pending : (s.onLoader f).pending = s.pending := rfl
@[simp] theorem onLoader_port (p : PortId) : (s.onLoader f).port p = s.port p := by cases p <;> rfl
@[simp] theorem onLoader_ringOf (p : PortId) : (s.onLoader f).ringOf p = s.ringOf p := rfl
@[simp] theorem onLoader_now : (s.onLoader f).now = s.now := rfl
@[simp] theorem onLoader_secs : (s.onLoader f).secs = s.secs := rfl

end

/-! ### State.onLamps -/

section
variable (f : Lamps → Lamps) (s : State)

@[simp] theorem onLamps_port1 : (s.onLamps f).port1 = s.port1 := rfl
@[simp] theorem onLamps_port2 : (s.onLamps f).port2 = s.port2 := rfl
@[simp] theorem onLamps_sender : (s.onLamps f).sender = s.sender := rfl
@[simp] theorem onLamps_ring : (s.onLamps f).ring = s.ring := rfl
@[simp] theorem onLamps_line : (s.onLamps f).line = s.line := rfl
@[simp] theorem onLamps_loop : (s.onLamps f).loop = s.loop := rfl
@[simp] theorem onLamps_chan : (s.onLamps f).chan = s.chan := rfl
@[simp] theorem onLamps_announce : (s.onLamps f).announce = s.announce := rfl
@[simp] theorem onLamps_peers : (s.onLamps f).peers = s.peers := rfl
@[simp] theorem onLamps_time : (s.onLamps f).time = s.time := rfl
@[simp] theorem onLamps_modem : (s.onLamps f).modem = s.modem := rfl
@[simp] theorem onLamps_hold : (s.onLamps f).hold = s.hold := rfl
@[simp] theorem onLamps_survey : (s.onLamps f).survey = s.survey := rfl
@[simp] theorem onLamps_log : (s.onLamps f).log = s.log := rfl
@[simp] theorem onLamps_resp : (s.onLamps f).resp = s.resp := rfl
@[simp] theorem onLamps_loader : (s.onLamps f).loader = s.loader := rfl
@[simp] theorem onLamps_lamps : (s.onLamps f).lamps = f s.lamps := rfl
@[simp] theorem onLamps_pending : (s.onLamps f).pending = s.pending := rfl
@[simp] theorem onLamps_port (p : PortId) : (s.onLamps f).port p = s.port p := by cases p <;> rfl
@[simp] theorem onLamps_ringOf (p : PortId) : (s.onLamps f).ringOf p = s.ringOf p := rfl
@[simp] theorem onLamps_now : (s.onLamps f).now = s.now := rfl
@[simp] theorem onLamps_secs : (s.onLamps f).secs = s.secs := rfl
@[simp] theorem onLamps_own : (s.onLamps f).own = s.own := rfl
@[simp] theorem onLamps_isModem : (s.onLamps f).isModem = s.isModem := rfl
@[simp] theorem onLamps_profile : (s.onLamps f).profile = s.profile := rfl

end

/-! ### State.onPending -/

section
variable (f : List Instr → List Instr) (s : State)

@[simp] theorem onPending_port1 : (s.onPending f).port1 = s.port1 := rfl
@[simp] theorem onPending_port2 : (s.onPending f).port2 = s.port2 := rfl
@[simp] theorem onPending_sender : (s.onPending f).sender = s.sender := rfl
@[simp] theorem onPending_ring : (s.onPending f).ring = s.ring := rfl
@[simp] theorem onPending_line : (s.onPending f).line = s.line := rfl
@[simp] theorem onPending_loop : (s.onPending f).loop = s.loop := rfl
@[simp] theorem onPending_chan : (s.onPending f).chan = s.chan := rfl
@[simp] theorem onPending_announce : (s.onPending f).announce = s.announce := rfl
@[simp] theorem onPending_peers : (s.onPending f).peers = s.peers := rfl
@[simp] theorem onPending_time : (s.onPending f).time = s.time := rfl
@[simp] theorem onPending_modem : (s.onPending f).modem = s.modem := rfl
@[simp] theorem onPending_hold : (s.onPending f).hold = s.hold := rfl
@[simp] theorem onPending_survey : (s.onPending f).survey = s.survey := rfl
@[simp] theorem onPending_log : (s.onPending f).log = s.log := rfl
@[simp] theorem onPending_resp : (s.onPending f).resp = s.resp := rfl
@[simp] theorem onPending_loader : (s.onPending f).loader = s.loader := rfl
@[simp] theorem onPending_lamps : (s.onPending f).lamps = s.lamps := rfl
@[simp] theorem onPending_pending : (s.onPending f).pending = f s.pending := rfl
@[simp] theorem onPending_port (p : PortId) : (s.onPending f).port p = s.port p := by cases p <;> rfl
@[simp] theorem onPending_ringOf (p : PortId) : (s.onPending f).ringOf p = s.ringOf p := rfl
@[simp] theorem onPending_now : (s.onPending f).now = s.now := rfl
@[simp] theorem onPending_secs : (s.onPending f).secs = s.secs := rfl
@[simp] theorem onPending_own : (s.onPending f).own = s.own := rfl
@[simp] theorem onPending_isModem : (s.onPending f).isModem = s.isModem := rfl
@[simp] theorem onPending_profile : (s.onPending f).profile = s.profile := rfl

end

/-! ### State.onPort -/

section
variable (p : PortId) (f : Port → Port) (s : State)

@[simp] theorem onPort_sender : (s.onPort p f).sender = s.sender := by cases p <;> rfl
@[simp] theorem onPort_ring : (s.onPort p f).ring = s.ring := by cases p <;> rfl
@[simp] theorem onPort_line : (s.onPort p f).line = s.line := by cases p <;> rfl
@[simp] theorem onPort_loop : (s.onPort p f).loop = s.loop := by cases p <;> rfl
@[simp] theorem onPort_chan : (s.onPort p f).chan = s.chan := by cases p <;> rfl
@[simp] theorem onPort_announce : (s.onPort p f).announce = s.announce := by cases p <;> rfl
@[simp] theorem onPort_peers : (s.onPort p f).peers = s.peers := by cases p <;> rfl
@[simp] theorem onPort_time : (s.onPort p f).time = s.time := by cases p <;> rfl
@[simp] theorem onPort_modem : (s.onPort p f).modem = s.modem := by cases p <;> rfl
@[simp] theorem onPort_hold : (s.onPort p f).hold = s.hold := by cases p <;> rfl
@[simp] theorem onPort_survey : (s.onPort p f).survey = s.survey := by cases p <;> rfl
@[simp] theorem onPort_log : (s.onPort p f).log = s.log := by cases p <;> rfl
@[simp] theorem onPort_resp : (s.onPort p f).resp = s.resp := by cases p <;> rfl
@[simp] theorem onPort_loader : (s.onPort p f).loader = s.loader := by cases p <;> rfl
@[simp] theorem onPort_lamps : (s.onPort p f).lamps = s.lamps := by cases p <;> rfl
@[simp] theorem onPort_pending : (s.onPort p f).pending = s.pending := by cases p <;> rfl
@[simp] theorem onPort_now : (s.onPort p f).now = s.now := by cases p <;> rfl
@[simp] theorem onPort_secs : (s.onPort p f).secs = s.secs := by cases p <;> rfl
@[simp] theorem onPort_own : (s.onPort p f).own = s.own := by cases p <;> rfl
@[simp] theorem onPort_isModem : (s.onPort p f).isModem = s.isModem := by cases p <;> rfl
@[simp] theorem onPort_profile : (s.onPort p f).profile = s.profile := by cases p <;> rfl
@[simp] theorem onPort_ringOf (q : PortId) : (s.onPort p f).ringOf q = s.ringOf q := by cases p <;> rfl
@[simp] theorem onPort_port : (s.onPort p f).port p = f (s.port p) := by cases p <;> rfl
@[simp] theorem onPort_other : (s.onPort p f).port (otherPort p) = s.port (otherPort p) := by cases p <;> rfl
@[simp] theorem onPort_one_port1 : (s.onPort .one f).port1 = f s.port1 := rfl
@[simp] theorem onPort_one_port2 : (s.onPort .one f).port2 = s.port2 := rfl
@[simp] theorem onPort_two_port1 : (s.onPort .two f).port1 = s.port1 := rfl
@[simp] theorem onPort_two_port2 : (s.onPort .two f).port2 = f s.port2 := rfl
@[simp] theorem port_one : s.port .one = s.port1 := rfl
@[simp] theorem port_two : s.port .two = s.port2 := rfl
@[simp] theorem other_one : otherPort .one = .two := rfl
@[simp] theorem other_two : otherPort .two = .one := rfl

end

/-! ### State.onRingOf -/

section
variable (p : PortId) (f : PortRing → PortRing) (s : State)

@[simp] theorem onRingOf_port1 : (s.onRingOf p f).port1 = s.port1 := by cases p <;> rfl
@[simp] theorem onRingOf_port2 : (s.onRingOf p f).port2 = s.port2 := by cases p <;> rfl
@[simp] theorem onRingOf_sender : (s.onRingOf p f).sender = s.sender := by cases p <;> rfl
@[simp] theorem onRingOf_line : (s.onRingOf p f).line = s.line := by cases p <;> rfl
@[simp] theorem onRingOf_loop : (s.onRingOf p f).loop = s.loop := by cases p <;> rfl
@[simp] theorem onRingOf_chan : (s.onRingOf p f).chan = s.chan := by cases p <;> rfl
@[simp] theorem onRingOf_announce : (s.onRingOf p f).announce = s.announce := by cases p <;> rfl
@[simp] theorem onRingOf_peers : (s.onRingOf p f).peers = s.peers := by cases p <;> rfl
@[simp] theorem onRingOf_time : (s.onRingOf p f).time = s.time := by cases p <;> rfl
@[simp] theorem onRingOf_modem : (s.onRingOf p f).modem = s.modem := by cases p <;> rfl
@[simp] theorem onRingOf_hold : (s.onRingOf p f).hold = s.hold := by cases p <;> rfl
@[simp] theorem onRingOf_survey : (s.onRingOf p f).survey = s.survey := by cases p <;> rfl
@[simp] theorem onRingOf_log : (s.onRingOf p f).log = s.log := by cases p <;> rfl
@[simp] theorem onRingOf_resp : (s.onRingOf p f).resp = s.resp := by cases p <;> rfl
@[simp] theorem onRingOf_loader : (s.onRingOf p f).loader = s.loader := by cases p <;> rfl
@[simp] theorem onRingOf_lamps : (s.onRingOf p f).lamps = s.lamps := by cases p <;> rfl
@[simp] theorem onRingOf_pending : (s.onRingOf p f).pending = s.pending := by cases p <;> rfl
@[simp] theorem onRingOf_now : (s.onRingOf p f).now = s.now := by cases p <;> rfl
@[simp] theorem onRingOf_secs : (s.onRingOf p f).secs = s.secs := by cases p <;> rfl
@[simp] theorem onRingOf_own : (s.onRingOf p f).own = s.own := by cases p <;> rfl
@[simp] theorem onRingOf_isModem : (s.onRingOf p f).isModem = s.isModem := by cases p <;> rfl
@[simp] theorem onRingOf_profile : (s.onRingOf p f).profile = s.profile := by cases p <;> rfl
@[simp] theorem onRingOf_port (q : PortId) : (s.onRingOf p f).port q = s.port q := by cases p <;> cases q <;> rfl
@[simp] theorem onRingOf_ringOf : (s.onRingOf p f).ringOf p = f (s.ringOf p) := by cases p <;> rfl
@[simp] theorem onRingOf_other : (s.onRingOf p f).ringOf (otherPort p) = s.ringOf (otherPort p) := by cases p <;> rfl
@[simp] theorem onRingOf_one : (s.onRingOf .one f).ring = { s.ring with ring1 := f s.ring.ring1 } := rfl
@[simp] theorem onRingOf_two : (s.onRingOf .two f).ring = { s.ring with ring2 := f s.ring.ring2 } := rfl
@[simp] theorem onRingOf_ring_burst : (s.onRingOf p f).ring.burst = s.ring.burst := by cases p <;> rfl
@[simp] theorem onRingOf_ring_burstSince : (s.onRingOf p f).ring.burstSince = s.ring.burstSince := by cases p <;> rfl
@[simp] theorem onRingOf_ring_voltage : (s.onRingOf p f).ring.voltage = s.ring.voltage := by cases p <;> rfl
@[simp] theorem onRingOf_ring_call : (s.onRingOf p f).ring.call = s.ring.call := by cases p <;> rfl
@[simp] theorem onRingOf_ring_burstNo : (s.onRingOf p f).ring.burstNo = s.ring.burstNo := by cases p <;> rfl
@[simp] theorem onRingOf_ring_quietEnd : (s.onRingOf p f).ring.quietEnd = s.ring.quietEnd := by cases p <;> rfl
@[simp] theorem onRingOf_ring_callerEnd : (s.onRingOf p f).ring.callerEnd = s.ring.callerEnd := by cases p <;> rfl
@[simp] theorem onRingOf_ring_windowOpened : (s.onRingOf p f).ring.windowOpened = s.ring.windowOpened := by
  cases p <;> rfl
@[simp] theorem onRingOf_ring_receiving : (s.onRingOf p f).ring.receiving = s.ring.receiving := by cases p <;> rfl
@[simp] theorem onRingOf_ring_record : (s.onRingOf p f).ring.record = s.ring.record := by cases p <;> rfl
@[simp] theorem onRingOf_ring_checkFails : (s.onRingOf p f).ring.checkFails = s.ring.checkFails := by cases p <;> rfl
@[simp] theorem onRingOf_ring_overwrites : (s.onRingOf p f).ring.overwrites = s.ring.overwrites := by cases p <;> rfl

end

end Sys2Proof.Machine
end

