-- ==== Sys2Proof/Laws/Frame.lean ====
section
/-! SUPPORT. The algebra of frames, and the frame of each update of the state. -/

namespace Sys2Proof.Machine

/-! ### Parts -/

theorem Part.same_refl (x : Part) (s : State) : x.same s s := by cases x <;> rfl

theorem Part.same_symm {x : Part} {s t : State} (h : x.same s t) : x.same t s := by
  cases x <;> exact Eq.symm h

theorem Part.same_trans {x : Part} {s t u : State} (h : x.same s t) (k : x.same t u) : x.same s u := by
  cases x <;> exact Eq.trans k h

/-! ### Frames -/

theorem changesOnly_refl (ps : List Part) (s : State) : changesOnly ps s s := fun x _ => x.same_refl s

theorem changesOnly.trans {ps : List Part} {s t u : State} (h : changesOnly ps s t) (k : changesOnly ps t u) :
    changesOnly ps s u := fun x hx => Part.same_trans (h x hx) (k x hx)

theorem changesOnly.mono {ps qs : List Part} {s t : State} (h : changesOnly ps s t) (hs : ∀ x ∈ ps, x ∈ qs) :
    changesOnly qs s t := fun x hx => h x fun hp => hx (hs x hp)

theorem changesOnly.ite {ps : List Part} {s a b : State} {c : Prop} [Decidable c] (h : changesOnly ps s a)
    (k : changesOnly ps s b) : changesOnly ps s (if c then a else b) := by split <;> assumption

/-- A step of a composite: what the later part does stays within the frame. -/
theorem changesOnly.step {ps qs : List Part} {s t u : State} (h : changesOnly ps s t) (k : changesOnly qs t u)
    (hs : ∀ x ∈ qs, x ∈ ps) : changesOnly ps s u := h.trans (k.mono hs)

/-! ### The updates -/

section
variable (s : State)

theorem onSender_changes (f) : changesOnly [.sender] s (s.onSender f) := by
  intro x hx; cases x <;> first | rfl | simp at hx
theorem onRing_changes (f) : changesOnly [.ring] s (s.onRing f) := by
  intro x hx; cases x <;> first | rfl | simp at hx
theorem onLine_changes (f) : changesOnly [.line] s (s.onLine f) := by
  intro x hx; cases x <;> first | rfl | simp at hx
theorem onLoop_changes (f) : changesOnly [.loop] s (s.onLoop f) := by
  intro x hx; cases x <;> first | rfl | simp at hx
theorem onChan_changes (f) : changesOnly [.channel, .transmit] s (s.onChan f) := by
  intro x hx; cases x <;> first | rfl | simp at hx
theorem onAnnounce_changes (f) : changesOnly [.announce] s (s.onAnnounce f) := by
  intro x hx; cases x <;> first | rfl | simp at hx
theorem onPeers_changes (f) : changesOnly [.peers] s (s.onPeers f) := by
  intro x hx; cases x <;> first | rfl | simp at hx
theorem onTime_changes (f) : changesOnly [.time] s (s.onTime f) := by
  intro x hx; cases x <;> first | rfl | simp at hx
theorem onModem_changes (f) : changesOnly [.modem, .faultPresent] s (s.onModem f) := by
  intro x hx; cases x <;> first | rfl | simp at hx
theorem onHold_changes (f) : changesOnly [.hold] s (s.onHold f) := by
  intro x hx; cases x <;> first | rfl | simp at hx
theorem onSurvey_changes (f) : changesOnly [.survey] s (s.onSurvey f) := by
  intro x hx; cases x <;> first | rfl | simp at hx
theorem onLog_changes (f) : changesOnly [.log, .asked] s (s.onLog f) := by
  intro x hx; cases x <;> first | rfl | simp at hx
theorem onResp_changes (f) : changesOnly [.resp] s (s.onResp f) := by
  intro x hx; cases x <;> first | rfl | simp at hx
theorem onLoader_changes (f) : changesOnly [.loader] s (s.onLoader f) := by
  intro x hx; cases x <;> first | rfl | simp at hx
theorem onLamps_changes (f) : changesOnly [.lamps] s (s.onLamps f) := by
  intro x hx; cases x <;> first | rfl | simp at hx
theorem onPending_changes (f) : changesOnly [.pending] s (s.onPending f) := by
  intro x hx; cases x <;> first | rfl | simp at hx
theorem onPort_changes (p : PortId) (f) : changesOnly [portPart p, fifoPart p] s (s.onPort p f) := by
  intro x hx; cases p <;> cases x <;> first | rfl | simp [portPart, fifoPart] at hx
theorem onRingOf_changes (p : PortId) (f) : changesOnly [.ring] s (s.onRingOf p f) := by
  cases p <;> exact onRing_changes s _

/-- An update of a port that leaves its FIFO. -/
theorem onPort_rest (p : PortId) (f : Port → Port) (h : ∀ q, (f q).fifo = q.fifo) :
    changesOnly [portPart p] s (s.onPort p f) := by
  intro x hx; cases p <;> cases x <;> first | rfl | exact h _ | simp [portPart] at hx

/-- An update of a port that changes nothing but its FIFO. -/
theorem onPort_fifo (p : PortId) (f : Port → Port) (h : ∀ q, (f q).rest = q.rest) :
    changesOnly [fifoPart p] s (s.onPort p f) := by
  intro x hx; cases p <;> cases x <;> first | rfl | exact h _ | simp [fifoPart] at hx

/-- An update of the transceiver that leaves what placing a STATE or a FAULT touches. -/
theorem onChan_channel (f : Channel → Channel) (h : (f s.chan).moving = s.chan.moving) :
    changesOnly [.channel] s (s.onChan f) := by
  intro x hx; cases x <;> first | rfl | exact h | simp at hx

/-- An update of the transceiver that touches only what placing a STATE or a FAULT touches. -/
theorem onChan_transmit (f : Channel → Channel) (h : (f s.chan).still = s.chan.still) :
    changesOnly [.transmit] s (s.onChan f) := by
  intro x hx; cases x <;> first | rfl | exact h | simp at hx

/-- An update of the modem port that leaves FAULT_PRESENT. -/
theorem onModem_rest (f : ModemPort → ModemPort) (h : (f s.modem).faultPresent = s.modem.faultPresent) :
    changesOnly [.modem] s (s.onModem f) := by
  intro x hx; cases x <;> first | rfl | exact h | simp at hx

/-- An update of FAULT_PRESENT alone. -/
theorem onModem_flag (f : ModemPort → ModemPort) (h : (f s.modem).rest = s.modem.rest) :
    changesOnly [.faultPresent] s (s.onModem f) := by
  intro x hx; cases x <;> first | rfl | exact h | simp at hx

/-- An update of the log that leaves the model's own mark. -/
theorem onLog_rest (f : FaultLog → FaultLog) (h : (f s.log).snapshotAsked = s.log.snapshotAsked) :
    changesOnly [.log] s (s.onLog f) := by
  intro x hx; cases x <;> first | rfl | exact h | simp at hx

/-- An update of the model's own mark alone. -/
theorem onLog_asked (f : FaultLog → FaultLog) (h : (f s.log).rest = s.log.rest) :
    changesOnly [.asked] s (s.onLog f) := by
  intro x hx; cases x <;> first | rfl | exact h | simp at hx

end

/-! ### What a frame says of one part -/

section
variable {ps : List Part} {s t : State} (h : changesOnly ps s t)
include h

theorem changesOnly.sender (k : Part.sender ∉ ps := by decide) : t.sender = s.sender := h .sender k
theorem changesOnly.ring (k : Part.ring ∉ ps := by decide) : t.ring = s.ring := h .ring k
theorem changesOnly.line (k : Part.line ∉ ps := by decide) : t.line = s.line := h .line k
theorem changesOnly.loop (k : Part.loop ∉ ps := by decide) : t.loop = s.loop := h .loop k
theorem changesOnly.announce (k : Part.announce ∉ ps := by decide) : t.announce = s.announce := h .announce k
theorem changesOnly.peers (k : Part.peers ∉ ps := by decide) : t.peers = s.peers := h .peers k
theorem changesOnly.time (k : Part.time ∉ ps := by decide) : t.time = s.time := h .time k
theorem changesOnly.hold (k : Part.hold ∉ ps := by decide) : t.hold = s.hold := h .hold k
theorem changesOnly.survey (k : Part.survey ∉ ps := by decide) : t.survey = s.survey := h .survey k
theorem changesOnly.resp (k : Part.resp ∉ ps := by decide) : t.resp = s.resp := h .resp k
theorem changesOnly.loader (k : Part.loader ∉ ps := by decide) : t.loader = s.loader := h .loader k
theorem changesOnly.lamps (k : Part.lamps ∉ ps := by decide) : t.lamps = s.lamps := h .lamps k
theorem changesOnly.pending (k : Part.pending ∉ ps := by decide) : t.pending = s.pending := h .pending k
theorem changesOnly.port1 (k : Part.port1 ∉ ps := by decide) : t.port1.rest = s.port1.rest := h .port1 k
theorem changesOnly.port2 (k : Part.port2 ∉ ps := by decide) : t.port2.rest = s.port2.rest := h .port2 k
theorem changesOnly.fifo1 (k : Part.fifo1 ∉ ps := by decide) : t.port1.fifo = s.port1.fifo := h .fifo1 k
theorem changesOnly.fifo2 (k : Part.fifo2 ∉ ps := by decide) : t.port2.fifo = s.port2.fifo := h .fifo2 k
theorem changesOnly.still (k : Part.channel ∉ ps := by decide) : t.chan.still = s.chan.still := h .channel k
theorem changesOnly.moving (k : Part.transmit ∉ ps := by decide) : t.chan.moving = s.chan.moving := h .transmit k
theorem changesOnly.modem (k : Part.modem ∉ ps := by decide) : t.modem.rest = s.modem.rest := h .modem k
theorem changesOnly.faultPresent (k : Part.faultPresent ∉ ps := by decide) :
    t.modem.faultPresent = s.modem.faultPresent := h .faultPresent k
theorem changesOnly.log (k : Part.log ∉ ps := by decide) : t.log.rest = s.log.rest := h .log k
theorem changesOnly.asked (k : Part.asked ∉ ps := by decide) : t.log.snapshotAsked = s.log.snapshotAsked := h .asked k

/-- Both parts of a port. -/
theorem changesOnly.portOf (p : PortId) (k : portPart p ∉ ps) (l : fifoPart p ∉ ps) : t.port p = s.port p := by
  have e : (t.port p).rest = (s.port p).rest := by cases p <;> exact h _ k
  have f : (t.port p).fifo = (s.port p).fifo := by cases p <;> exact h _ l
  have split : ∀ q : Port, q = { q.rest with fifo := q.fifo } := fun _ => rfl
  rw [split (t.port p), split (s.port p), e, f]

theorem changesOnly.chan (k : Part.channel ∉ ps := by decide) (l : Part.transmit ∉ ps := by decide) :
    t.chan = s.chan := by
  have e := h.still k
  have f := h.moving l
  simp only [Channel.moving, Prod.mk.injEq] at f
  have split : ∀ c : Channel, c = { c.still with
      faultSlot := c.faultSlot, stateSlot := c.stateSlot, tx := c.tx, count := c.count, gapMet := c.gapMet,
      quietFrom := c.quietFrom, jamEnd := c.jamEnd, draws := c.draws } := fun _ => rfl
  rw [split t.chan, split s.chan, e]
  simp [f]

end

end Sys2Proof.Machine
end

