-- ==== Sys2Proof/Laws/Ops.lean ====
section
/-! SUPPORT. The frame of each shared operation: the parts of the state it can change. A proof about a command cites
these in place of unfolding the operations. -/

namespace Sys2Proof.Machine

theorem satInc_eq (top n : Nat) : satInc top n = min top (n + 1) := by unfold satInc; split <;> omega

variable (s : State)

/-! ### The fault log (09) -/

section
variable (c : FaultClass) (o : Nat) (q : Option Nat) (src : Source) (v : Option Nat) (n : Nat)

theorem raise_changes : changesOnly [.log, .asked] s (raise c o q src v n s) := by
  unfold raise
  split
  · exact onLog_changes s _
  · split <;> exact onLog_changes s _

theorem clear_changes : changesOnly [.log, .asked] s (clear c o q s) := onLog_changes s _

theorem raiseOwn_changes : changesOnly [.log, .asked] s (raiseOwn c q v s) := raise_changes s _ _ _ _ _ _

theorem clearOwn_changes : changesOnly [.log, .asked] s (clearOwn c q s) := clear_changes s _ _ _

theorem applyOutcome_changes (b f : Nat) (r : RunSet) : changesOnly [.log, .asked] s (applyOutcome b f r s) := by
  unfold applyOutcome
  exact (raise_changes s _ _ _ _ _ _).ite ((clear_changes s _ _ _).ite (changesOnly_refl _ s))

end

theorem mirrorRaises_changes (k : Nat) (es : List (FaultClass × FaultEntry)) :
    changesOnly [.log, .asked] s (mirrorRaises k es s) := by
  induction es generalizing s with
  | nil => exact changesOnly_refl _ s
  | cons e es ih => exact (raise_changes s _ _ _ _ _ _).trans (ih _)

theorem mirrorClears_changes (k : Nat) (es : List (FaultClass × FaultEntry)) :
    changesOnly [.log, .asked] s (mirrorClears k es s) := onLog_changes s _

theorem mirror_changes (k : Nat) (f : Snapshot) : changesOnly [.log, .asked] s (mirror k f s) := by
  unfold mirror
  exact (mirrorRaises_changes s _ _).ite ((mirrorRaises_changes s _ _).trans (mirrorClears_changes _ _ _))

theorem applyOutcomes_changes (b f : Nat) (rs : List RunSet) :
    changesOnly [.log, .asked] s (applyOutcomes b f rs s) := by
  induction rs generalizing s with
  | nil => exact changesOnly_refl _ s
  | cons r rs ih => exact (applyOutcome_changes s b f r).trans (ih _)

theorem freeProcessing_changes : changesOnly [.channel] s (freeProcessing s) := onChan_channel s _ (by rfl)

theorem beginRun_changes (h : Bool) : changesOnly [.log, .channel] s (beginRun h s) := by
  unfold beginRun
  exact changesOnly.ite (((freeProcessing_changes s).mono (by decide)).ite (changesOnly_refl _ s))
    ((onLog_rest s _ (by rfl)).mono (by decide))

theorem askRun_changes (h : Bool) : changesOnly [.log, .channel] s (askRun h s) := by
  unfold askRun
  split
  · exact (onLog_rest s _ (by rfl)).mono (by decide)
  · exact beginRun_changes s h

theorem endRun_changes : changesOnly [.log, .asked, .channel] s (endRun s) := by
  unfold endRun
  split
  · exact changesOnly_refl _ s
  · split
    · exact (onLog_changes s _).mono (by decide)
    · have onLog : ∀ (x : State) f, changesOnly [.log, .asked, .channel] s x →
          changesOnly [.log, .asked, .channel] s (x.onLog f) := fun x f h => h.step (onLog_changes x f) (by decide)
      have marked : ∀ b g rs f, changesOnly [.log, .asked, .channel] s ((applyOutcomes b g rs s).onLog f) :=
        fun b g rs f => onLog _ f ((applyOutcomes_changes s b g rs).mono (by decide))
      have freed : ∀ (k : Prop) [Decidable k] b g rs f, changesOnly [.log, .asked, .channel] s
          (if k then freeProcessing ((applyOutcomes b g rs s).onLog f) else (applyOutcomes b g rs s).onLog f) :=
        fun k _ b g rs f => ((marked b g rs f).step (freeProcessing_changes _) (by decide)).ite (marked b g rs f)
      dsimp only
      split
      · exact freed _ _ _ _ _
      · exact (onLog _ _ (freed _ _ _ _ _)).step (beginRun_changes _ _) (by decide)

/-! ### The modem port (07) -/

theorem answerLost_changes : changesOnly [.resp] s (answerLost s) := onResp_changes s _

theorem advanceSlot_changes : changesOnly [.modem] s (advanceSlot s) := by
  unfold advanceSlot
  split
  · exact onModem_rest s _ (by rfl)
  · exact changesOnly_refl _ s

theorem joinQueue_changes (c : Command) (q : List Command) : changesOnly [.modem] s (joinQueue c q s) :=
  (onModem_rest s _ (by rfl)).trans (advanceSlot_changes _)

theorem issue_changes (c : Command) : changesOnly [.modem, .resp] s (issue c s) := by
  have lost : changesOnly [.modem, .resp] s (answerLost s) := (answerLost_changes s).mono (by decide)
  have join : ∀ (x : State) d q, changesOnly [.modem, .resp] s x → changesOnly [.modem, .resp] s (joinQueue d q x) :=
    fun x d q h => h.step (joinQueue_changes x d q) (by decide)
  unfold issue
  refine (changesOnly_refl _ s).ite (changesOnly.ite (lost.ite (join _ _ _ (changesOnly_refl _ s))) ?_)
  exact (join _ _ _ (changesOnly_refl _ s)).ite (join _ _ _ (lost.ite (changesOnly_refl _ s)))

theorem setLink_changes (l : Link) : changesOnly [.modem, .resp] s (setLink l s) := by
  have lost : changesOnly [.modem, .resp] s (answerLost s) := (answerLost_changes s).mono (by decide)
  unfold setLink
  refine changesOnly.ite ?_ ((onModem_rest s _ (by rfl)).mono (by decide))
  exact (lost.ite (changesOnly_refl _ s)).step (onModem_rest _ _ (by rfl)) (by decide)

/-! ### The survey unit (08) -/

theorem abortSurvey_changes : changesOnly [.survey] s (abortSurvey s) := onSurvey_changes s _

theorem abortMeasuring_changes : changesOnly [.survey] s (abortMeasuring s) :=
  (abortSurvey_changes s).ite (changesOnly_refl _ s)

theorem testLoopHigh_changes (f : Figures) : changesOnly [.log, .asked] s (testLoopHigh f s) := by
  unfold testLoopHigh
  split
  · exact changesOnly_refl _ s
  · exact (raiseOwn_changes s _ _ _).ite ((clearOwn_changes s _ _).ite (changesOnly_refl _ s))

theorem testEarth_changes (f : Figures) : changesOnly [.log, .asked] s (testEarth f s) := by
  unfold testEarth
  split
  · exact (raiseOwn_changes s _ _ _).ite ((clearOwn_changes s _ _).ite (changesOnly_refl _ s))
  · exact changesOnly_refl _ s

theorem testNoise_changes (f : Figures) : changesOnly [.log, .asked] s (testNoise f s) := by
  unfold testNoise
  exact (raiseOwn_changes s _ _ _).ite ((clearOwn_changes s _ _).ite (changesOnly_refl _ s))

/-! ### The holding controller (07) -/

/-- What a change of role can touch. -/
abbrev roleParts : List Part := [.hold, .modem, .log, .asked]

/-- What the holding controller can touch. -/
abbrev holdParts : List Part := [.hold, .modem, .log, .asked, .resp, .survey]

theorem leaveRole_changes : changesOnly roleParts s (leaveRole s) := by
  unfold leaveRole
  split
  · exact changesOnly_refl _ s
  · exact (onHold_changes s _).mono (by decide)
  · exact changesOnly_refl _ s
  · exact (onHold_changes s _).mono (by decide)
  · exact ((onHold_changes s _).mono (by decide)).step (onModem_rest _ _ (by rfl)) (by decide)
  · exact (onHold_changes s _).mono (by decide)
  · exact (clearOwn_changes s _ _).mono (by decide)

theorem enterRole_changes (r : Role) : changesOnly roleParts s (enterRole r s) :=
  (leaveRole_changes s).step (onHold_changes _ _) (by decide)

theorem enterQuiet_changes : changesOnly roleParts s (enterQuiet s) := by
  unfold enterQuiet
  have q : changesOnly roleParts s ((enterRole .quiet s).onHold fun h =>
      { h with settleEnd := s.deadline s.settleTime }) :=
    (enterRole_changes s _).step (onHold_changes _ _) (by decide)
  exact (q.trans (enterRole_changes _ _)).ite q

theorem enterResting_changes : changesOnly roleParts s (enterResting s) :=
  (enterRole_changes s _).step (raiseOwn_changes _ _ _ _) (by decide)

/-- A change of role, a change of the controller, a command issued, and the abort of a survey. -/
theorem training_changes (r : Role) (f : Holding → Holding) (c : Command) :
    changesOnly holdParts s (abortMeasuring (issue c ((enterRole r s).onHold f))) :=
  ((((enterRole_changes s r).step (onHold_changes _ f) (by decide)).mono (by decide : ∀ x ∈ roleParts, x ∈ holdParts)).step
    (issue_changes _ _) (by decide)).step (abortMeasuring_changes _) (by decide)

theorem issueTrain_changes (l : Nat) : changesOnly holdParts s (issueTrain l s) := training_changes s _ _ _

theorem issueStep_changes : changesOnly holdParts s (issueStep s) := training_changes s _ _ _

theorem trainOrRest_changes : changesOnly holdParts s (trainOrRest s) :=
  (issueTrain_changes s _).ite ((enterResting_changes s).mono (by decide))

theorem enterHolding_changes (r : Nat) : changesOnly roleParts s (enterHolding r s) :=
  ((enterRole_changes s _).step (onHold_changes _ _) (by decide)).step (clearOwn_changes _ _ _) (by decide)

theorem trainingUp_changes (r : Nat) : changesOnly roleParts s (trainingUp r s) := by
  unfold trainingUp
  exact ((enterHolding_changes s r).step (onHold_changes _ _) (by decide)).ite (enterHolding_changes s r)

theorem enterRecovering_changes (l d : Nat) : changesOnly roleParts s (enterRecovering l d s) :=
  (enterRole_changes s _).step (onHold_changes _ _) (by decide)

theorem trainingFailed_changes : changesOnly roleParts s (trainingFailed s) := enterRecovering_changes s _ _

theorem linkDrop_changes : changesOnly roleParts s (linkDrop s) :=
  ((raiseOwn_changes s _ _ _).mono (by decide : ∀ x ∈ [Part.log, .asked], x ∈ roleParts)).trans
    (enterRecovering_changes _ _ _)

theorem review_changes : changesOnly [.hold, .modem, .log, .asked, .resp] s (review s) := by
  have id : changesOnly [.hold, .modem, .log, .asked, .resp] s s := changesOnly_refl _ s
  have role : ∀ r, changesOnly [.hold, .modem, .log, .asked, .resp] s (enterRole r s) :=
    fun r => (enterRole_changes s r).mono (by decide)
  have drop : changesOnly [.hold, .modem, .log, .asked, .resp] s (enterRole .standby (issue .drop s)) :=
    ((issue_changes s _).mono (by decide)).step (enterRole_changes _ _) (by decide)
  unfold review
  refine id.ite ?_
  split
  · exact id
  · exact (role _).ite id
  · exact id.ite ((enterQuiet_changes s).mono (by decide))
  · exact drop.ite id
  · exact drop.ite id
  · exact (role _).ite id
  · exact (role _).ite id

theorem braceNotice_changes (d : Nat) : changesOnly [.hold, .modem, .resp] s (braceNotice d s) := by
  have held : ∀ f, changesOnly [.hold, .modem, .resp] s (s.onHold f) := fun f => (onHold_changes s f).mono (by decide)
  unfold braceNotice
  refine (changesOnly_refl _ s).ite ?_
  dsimp only
  split
  · exact ((held _).step (onModem_rest _ _ (by rfl)) (by decide)).step (issue_changes _ _) (by decide)
  · exact ((held _).step (issue_changes _ _) (by decide)).ite (changesOnly_refl _ s)

theorem stepBack_changes : changesOnly holdParts s (stepBack s) := by
  unfold stepBack
  split
  · exact (issueTrain_changes s _).ite (changesOnly_refl _ s)
  · exact changesOnly_refl _ s

theorem marginSample_changes (m : Nat) : changesOnly holdParts s (marginSample m s) := by
  unfold marginSample
  have back : changesOnly holdParts s (stepBack (s.onHold fun h => { h with s16 := some (nextS16 h.s16 m) })) :=
    ((onHold_changes s _).mono (by decide : ∀ x ∈ [Part.hold], x ∈ holdParts)).trans (stepBack_changes _)
  exact (back.trans (issueStep_changes _)).ite back

theorem hourReport_changes : changesOnly [.hold] s (hourReport s) := by
  unfold hourReport
  split
  · exact (changesOnly_refl _ s).ite (onHold_changes s _)
  · exact changesOnly_refl _ s

theorem holdingReport_changes (b l : Link) (v m : Nat) : changesOnly holdParts s (holdingReport b l v m s) := by
  have id : changesOnly holdParts s s := changesOnly_refl _ s
  have drop : changesOnly holdParts s (issue .drop s) := (issue_changes s _).mono (by decide)
  have holding : changesOnly holdParts s (enterHolding v s) := (enterHolding_changes s v).mono (by decide)
  unfold holdingReport
  split
  · exact id
  · refine changesOnly.ite ?_ id
    split
    · exact (trainingUp_changes s v).mono (by decide)
    · exact (trainingFailed_changes s).mono (by decide)
    · exact id
  · split
    · exact marginSample_changes s m
    · exact (linkDrop_changes s).mono (by decide)
    · exact (linkDrop_changes s).mono (by decide)
  · exact holding.ite id
  · exact holding.ite id
  · exact drop.ite id
  · exact drop.ite id

/-! ### The transceiver (03) -/

theorem startWait_changes : changesOnly [.transmit] s (startWait s) := onChan_transmit s _ (by rfl)

theorem place_changes (put : Channel → Channel) : changesOnly [.channel, .transmit] s (place put s) := by
  have placed := onChan_changes s put
  have timed : changesOnly [.channel, .transmit] s
      (if s.chan.busy then s.onChan put else (s.onChan put).onChan fun c => { c with jamEnd := s.deadline 30000 }) :=
    placed.ite (placed.trans (onChan_changes _ _))
  unfold place
  exact (timed.step (startWait_changes _) (by decide)).ite timed

/-- Placing a STATE or a FAULT touches the transmitter's wait, the two slots and the jam timer alone. -/
theorem place_transmit (put : Channel → Channel) (h : ∀ c : Channel, (put c).still = c.still) :
    changesOnly [.transmit] s (place put s) := by
  have placed := onChan_transmit s put (h _)
  have timed : changesOnly [.transmit] s
      (if s.chan.busy then s.onChan put else (s.onChan put).onChan fun c => { c with jamEnd := s.deadline 30000 }) :=
    placed.ite (placed.trans (onChan_transmit _ _ (by rfl)))
  unfold place
  exact (timed.trans (startWait_changes _)).ite timed

theorem placeCall_changes (c : CallStep) (n i : Nat) : changesOnly [.channel, .transmit] s (placeCall c n i s) :=
  place_changes s _

/-- What placing a NOTICE can touch. -/
abbrev noticeParts : List Part := [.channel, .transmit, .hold, .modem, .resp]

theorem placeNotice_changes (k : NoticeKind) (d : Nat) : changesOnly noticeParts s (placeNotice k d s) := by
  unfold placeNotice
  have placed : changesOnly noticeParts s
      (place (fun c => { c with noticeSlot := some (mergeNotice s.chan.noticeSlot k d) }) s) :=
    (place_changes s _).mono (by decide)
  exact (placed.step (braceNotice_changes _ _) (by decide)).ite placed

theorem waitComplete_changes : changesOnly [.channel, .transmit] s (waitComplete s) := onChan_changes s _

theorem reportNoticeSent_changes : changesOnly [.loop, .survey] s (reportNoticeSent s) :=
  ((onLoop_changes s _).mono (by decide)).step (onSurvey_changes _ _) (by decide)

theorem noticeCut_changes : changesOnly [.loop, .survey] s (noticeCut s) :=
  ((onLoop_changes s _).mono (by decide)).step (onSurvey_changes _ _) (by decide)

theorem beginSurvey_changes : changesOnly (.survey :: noticeParts) s (beginSurvey s) :=
  ((onSurvey_changes s _).mono (by decide)).step (placeNotice_changes _ _ _) (by decide)

theorem deferSurvey_changes : changesOnly [.survey, .log, .asked] s (deferSurvey s) := by
  have deferred : ∀ f, changesOnly [.survey, .log, .asked] s (s.onSurvey f) :=
    fun f => (onSurvey_changes s f).mono (by decide)
  unfold deferSurvey
  exact ((deferred _).step (raiseOwn_changes _ _ _ _) (by decide)).ite (deferred _)

/-- What a survey that falls due can touch. -/
abbrev dueParts : List Part := .survey :: .log :: .asked :: noticeParts

theorem surveyFallsDue_changes : changesOnly dueParts s (surveyFallsDue s) :=
  ((beginSurvey_changes s).mono (by decide)).ite ((deferSurvey_changes s).mono (by decide))

theorem surveyDueNow_changes : changesOnly dueParts s (surveyDueNow s) :=
  (surveyFallsDue_changes s).ite (changesOnly_refl _ s)

/-! ### Ports and ringing (01, 02) -/

section
variable (p : PortId)

theorem playTone_changes (k : OneShot) : changesOnly [portPart p] s (playTone p k s) :=
  onPort_rest s p _ fun _ => by rfl

/-- What the ringing of a port can touch. -/
abbrev ringParts (p : PortId) : List Part := [portPart p, .ring, .survey]

/-- What the ringing of both ports can touch. -/
abbrev ringsParts : List Part := [.port1, .port2, .ring, .survey]

theorem ringParts_sub : ∀ x ∈ ringParts p, x ∈ ringsParts := by cases p <;> decide

theorem startRinging_changes (c : RingCause) (m : Cadence) : changesOnly (ringParts p) s (startRinging p c m s) := by
  have rung : changesOnly (ringParts p) s
      (s.onPort p fun q => { q.enter .ringing s.now with cause := some c }) :=
    (onPort_rest s p _ fun _ => by rfl).mono (by cases p <;> decide)
  exact (rung.step (onRingOf_changes _ p _) (by cases p <;> decide)).step (abortMeasuring_changes _)
    (by cases p <;> decide)

theorem startPattern_changes (k : Pattern) : changesOnly (ringParts p) s (startPattern k p s) :=
  startRinging_changes s p _ _

theorem portToIdle_changes : changesOnly (ringParts p) s (portToIdle p s) := by
  have idle : changesOnly (ringParts p) s ((s.onPort p fun q => q.enter .idle s.now).onRingOf p PortRing.silence) :=
    ((onPort_rest s p _ fun _ => by rfl).mono (by cases p <;> decide)).step (onRingOf_changes _ p _)
      (by cases p <;> decide)
  unfold portToIdle
  exact (idle.trans (startPattern_changes _ p _)).ite ((idle.trans (startPattern_changes _ p _)).ite idle)

theorem endRinging_changes (c : RingCause) : changesOnly (ringParts p) s (endRinging c p s) :=
  (portToIdle_changes s p).ite (changesOnly_refl _ s)

theorem setDemand_changes (k : Pattern) : changesOnly (ringParts p) s (setDemand k p s) := by
  have asked : changesOnly (ringParts p) s (s.onRingOf p (PortRing.setDemand k true)) :=
    (onRingOf_changes s p _).mono (by cases p <;> decide)
  unfold setDemand
  exact (changesOnly_refl _ s).ite ((asked.trans (startPattern_changes _ p k)).ite asked)

theorem withdrawDemand_changes (k : Pattern) : changesOnly (ringParts p) s (withdrawDemand k p s) :=
  ((onRingOf_changes s p _).mono (by cases p <;> decide)).trans (endRinging_changes _ p _)

theorem withdrawBoth_changes (k : Pattern) : changesOnly ringsParts s (withdrawBoth k s) :=
  ((withdrawDemand_changes s .one k).mono (ringParts_sub .one)).step (withdrawDemand_changes _ .two k)
    (ringParts_sub .two)

theorem ringForBurst_changes : changesOnly (ringParts p) s (ringForBurst p s) :=
  (startRinging_changes s p _ _).ite (changesOnly_refl _ s)

theorem openMirrorGate_changes : changesOnly [.ring] s (openMirrorGate p s) := onRingOf_changes s p _

theorem burstComplete_changes : changesOnly [.log, .asked] s (burstComplete p s) :=
  (clearOwn_changes s _ _).ite (changesOnly_refl _ s)

theorem closeMirrorGate_changes : changesOnly [.ring, .log, .asked] s (closeMirrorGate p s) :=
  (((burstComplete_changes s p).mono (by decide)).step (onRingOf_changes _ p _) (by decide)).ite (changesOnly_refl _ s)

theorem sendMoment_changes : changesOnly [.ring] s (sendMoment p s) :=
  (onRingOf_changes s p _).ite (changesOnly_refl _ s)

theorem overwriteSend_changes : changesOnly [.ring] s (overwriteSend p s) :=
  ((onRingOf_changes s p _).trans (onRing_changes _ _)).ite (changesOnly_refl _ s)

end

theorem abandonSends_changes : changesOnly [.ring] s (abandonSends s) :=
  (onRingOf_changes s .one _).trans (onRingOf_changes _ .two _)

theorem closeCallerWindow_changes : changesOnly [.ring] s (closeCallerWindow s) := onRing_changes s _

theorem endExchangeRinging_changes : changesOnly ringsParts s (endExchangeRinging s) :=
  ((((closeCallerWindow_changes s).trans (abandonSends_changes _)).mono (by decide)).step
    (endRinging_changes _ .one _) (ringParts_sub .one)).step (endRinging_changes _ .two _) (ringParts_sub .two)

theorem answerCall_changes : changesOnly ringsParts s (answerCall s) :=
  (((onRing_changes s _).mono (by decide)).trans (endExchangeRinging_changes _)).ite (changesOnly_refl _ s)

/-! ### Time keeping (06) -/

theorem setFromCaller_changes (d : List (Fin 10)) : changesOnly [.time, .hold] s (setFromCaller d s) :=
  (((onTime_changes s _).mono (by decide)).step (hourReport_changes _) (by decide)).ite (changesOnly_refl _ s)

theorem adopt_changes (c : CarriedClock) : changesOnly [.time, .hold] s (adopt c s) :=
  ((onTime_changes s _).mono (by decide)).step (hourReport_changes _) (by decide)

theorem considerClock_changes (c : Option CarriedClock) : changesOnly [.time, .hold] s (considerClock c s) := by
  have id : changesOnly [.time, .hold] s s := changesOnly_refl _ s
  unfold considerClock
  split
  · exact id
  · refine id.ite ?_
    split
    · exact adopt_changes s _
    · split
      · exact id
      · exact (adopt_changes s _).ite id

theorem advanceClock_changes : changesOnly [.time, .hold] s (advanceClock s) := by
  have ticked : ∀ f, changesOnly [.time, .hold] s (s.onTime f) := fun f => (onTime_changes s f).mono (by decide)
  unfold advanceClock
  split
  · exact changesOnly_refl _ s
  · exact ((ticked _).step (hourReport_changes _) (by decide)).ite (ticked _)

/-! ### The loop and park unit (05) -/

/-- What a lead's beginning can touch. -/
abbrev leadParts : List Part := .loop :: noticeParts

theorem startLead_changes (a : LeadAct) (k : NoticeKind) (d : Nat) : changesOnly leadParts s (startLead a k d s) :=
  ((onLoop_changes s _).mono (by decide)).step (placeNotice_changes _ _ _) (by decide)

theorem requestLoop_changes : changesOnly leadParts s (requestLoop s) := by
  unfold requestLoop
  split
  · exact startLead_changes s _ _ _
  · exact (changesOnly_refl _ s).ite (startLead_changes s _ _ _)
  · exact changesOnly_refl _ s

theorem takeWanted_changes : changesOnly [.loop] s (takeWanted s) := by
  unfold takeWanted
  split
  · exact onLoop_changes s _
  · exact (changesOnly_refl _ s).ite (onLoop_changes s _)
  · split
    · exact onLoop_changes s _
    · exact changesOnly_refl _ s
  · exact changesOnly_refl _ s

/-- What the loop and the CALL slot's placement can touch. -/
abbrev callParts : List Part := [.loop, .channel, .transmit]

theorem decideTake_changes : changesOnly callParts s (decideTake s) := by
  have looped : ∀ f, changesOnly callParts s (s.onLoop f) := fun f => (onLoop_changes s f).mono (by decide)
  unfold decideTake
  split
  · exact changesOnly_refl _ s
  · split
    · exact changesOnly_refl _ s
    · exact ((looped _).step (placeCall_changes _ _ _ _) (by decide)).ite (looped _)

theorem decideRecall_changes : changesOnly [.loop] s (decideRecall s) := by
  unfold decideRecall
  exact ((onLoop_changes s _).ite (onLoop_changes s _)).ite (changesOnly_refl _ s)

theorem endLead_changes (a : List LeadAct) : changesOnly callParts s (endLead a s) := by
  have moved : changesOnly callParts s (takeWanted (s.onLoop fun u => { u with lead := none })) :=
    ((onLoop_changes s _).trans (takeWanted_changes _)).mono (by decide)
  have taken : changesOnly callParts s
      (if a.contains .handover then decideTake (takeWanted (s.onLoop fun u => { u with lead := none }))
       else takeWanted (s.onLoop fun u => { u with lead := none })) :=
    (moved.trans (decideTake_changes _)).ite moved
  unfold endLead
  exact (taken.step (decideRecall_changes _) (by decide)).ite taken

theorem recallRequest_changes : changesOnly leadParts s (recallRequest s) :=
  (((onLoop_changes s _).mono (by decide)).trans (startLead_changes _ _ _ _)).ite (changesOnly_refl _ s)

theorem endBreak_changes : changesOnly leadParts s (endBreak s) :=
  ((onLoop_changes s _).mono (by decide)).trans (requestLoop_changes _)

theorem giveUpTake_changes (p : PortId) : changesOnly [.loop] s (giveUpTake p s) := by
  unfold giveUpTake
  split
  · exact (onLoop_changes s _).ite (changesOnly_refl _ s)
  · exact changesOnly_refl _ s

/-- What the incoming transfer record and its demand can touch. -/
abbrev incomingParts : List Part := .loop :: ringsParts

theorem createIncoming_changes (n i : Nat) : changesOnly incomingParts s (createIncoming n i s) := by
  unfold createIncoming
  refine (changesOnly_refl _ s).ite ?_
  refine changesOnly.step (changesOnly.step ((onLoop_changes s _).mono (by decide)) (setDemand_changes _ .one _) ?_)
    (setDemand_changes _ .two _) ?_ <;> decide

theorem removeIncoming_changes : changesOnly incomingParts s (removeIncoming s) :=
  ((onLoop_changes s _).mono (by decide)).step (withdrawBoth_changes _ _) (by decide)

theorem withdrawIncoming_changes (g : Incoming → Bool) : changesOnly incomingParts s (withdrawIncoming g s) := by
  unfold withdrawIncoming
  split
  · exact (removeIncoming_changes s).ite (changesOnly_refl _ s)
  · exact changesOnly_refl _ s

theorem dropTook_changes (n : Nat) (o : Option (Nat × Nat)) : changesOnly [.loop] s (dropTook n o s) := by
  unfold dropTook
  split
  · exact (onLoop_changes s _).ite (changesOnly_refl _ s)
  · exact changesOnly_refl _ s

/-- What ends a transfer can touch. -/
abbrev transferParts : List Part := [.loop, .channel, .transmit, .port1, .port2, .ring, .survey]

theorem parkCall_changes (p : PortId) (d : Nat) : changesOnly transferParts s (parkCall p d s) := by
  have called : ∀ f i, changesOnly transferParts s (placeCall .offer d i (s.onLoop f)) := fun f i =>
    ((onLoop_changes s f).mono (by decide)).step (placeCall_changes _ _ _ _) (by decide)
  unfold parkCall
  exact ((called _ _).step (removeIncoming_changes _) (by decide)).ite (called _ _)

theorem endOffer_changes (k : Park) : changesOnly transferParts s (endOffer k s) := by
  unfold endOffer
  split
  · exact (placeCall_changes s _ _ _).mono (by decide)
  · refine (withdrawDemand_changes s k.port _).mono ?_
    cases k.port <;> decide
  · exact changesOnly_refl _ s

theorem unpark_changes : changesOnly [.loop] s (unpark s) := onLoop_changes s _

theorem takeHeard_changes (n i : Nat) : changesOnly incomingParts s (takeHeard n i s) := by
  have opened : ∀ f, changesOnly incomingParts s (s.onLoop f) := fun f => (onLoop_changes s f).mono (by decide)
  unfold takeHeard
  split
  · exact changesOnly_refl _ s
  · rename_i k _
    refine changesOnly.ite (changesOnly.ite ?_ (opened _)) (changesOnly_refl _ s)
    refine (opened _).step (withdrawDemand_changes _ k.port _) ?_
    cases k.port <;> decide

/-- What giving up a park hold can touch. -/
abbrev releaseParts : List Part := leadParts ++ ringsParts

theorem releasePark_changes : changesOnly releaseParts s (releasePark s) := by
  unfold releasePark
  split
  · exact changesOnly_refl _ s
  · refine changesOnly.ite ?_ (changesOnly_refl _ s)
    exact (((endOffer_changes s _).mono (by decide)).step (onLoop_changes _ _) (by decide)).step
      (startLead_changes _ _ _ _) (by decide)

/-! ### The handset ports (01) -/

section
variable (p : PortId)

theorem stopSender_changes : changesOnly [.sender] s (stopSender p s) := by
  unfold stopSender
  split
  · exact (onSender_changes s _).ite (changesOnly_refl _ s)
  · exact changesOnly_refl _ s

/-- What a port's state and FIFO can touch with the sender and a take. -/
abbrev portParts (p : PortId) : List Part := [portPart p, fifoPart p, .sender, .loop]

theorem leaveConnected_changes : changesOnly [fifoPart p, .sender, .loop] s (leaveConnected p s) := by
  unfold leaveConnected
  refine changesOnly.ite ?_ (changesOnly_refl _ s)
  refine changesOnly.step (changesOnly.step ((onPort_fifo s p _ fun _ => by rfl).mono ?_) (stopSender_changes _ p) ?_)
    (giveUpTake_changes _ p) ?_ <;> cases p <;> decide

theorem enterConnected_changes : changesOnly [portPart p, fifoPart p] s (enterConnected p s) := onPort_changes s p _

theorem enterRefused_changes : changesOnly (portParts p) s (enterRefused p s) := by
  refine changesOnly.step ((leaveConnected_changes s p).mono ?_) (onPort_changes _ p _) ?_ <;> cases p <;> decide

theorem enterLocal_changes : changesOnly (portParts p) s (enterLocal p s) := by
  refine changesOnly.step ((leaveConnected_changes s p).mono ?_) (onPort_changes _ p _) ?_ <;> cases p <;> decide

/-- What a port's state, with the loop and park unit asked, can touch. -/
abbrev askParts (p : PortId) : List Part := portPart p :: fifoPart p :: .sender :: leadParts

theorem localService_changes : changesOnly (askParts p) s (localService p s) := by
  refine changesOnly.step ((enterLocal_changes s p).mono ?_) (requestLoop_changes _) ?_ <;> cases p <;> decide

theorem startAnnouncement_changes : changesOnly [portPart p] s (startAnnouncement p s) :=
  onPort_rest s p _ fun _ => by rfl

theorem endAnnouncement_changes : changesOnly [portPart p] s (endAnnouncement p s) :=
  (onPort_rest s p _ fun _ => by rfl).ite (changesOnly_refl _ s)

theorem decideOffHook_changes : changesOnly (askParts p) s (decideOffHook p s) := by
  have refused : changesOnly (askParts p) s (enterRefused p s) :=
    (enterRefused_changes s p).mono (by cases p <;> decide)
  have connected : changesOnly (askParts p) s (enterConnected p s) :=
    (enterConnected_changes s p).mono (by cases p <;> decide)
  have locked : changesOnly (askParts p) s (startAnnouncement p (enterLocal p s)) :=
    ((enterLocal_changes s p).mono (by cases p <;> decide)).step (startAnnouncement_changes _ p)
      (by cases p <;> decide)
  unfold decideOffHook
  exact locked.ite (refused.ite (connected.ite (refused.ite
    (connected.step (requestLoop_changes _) (by cases p <;> decide)))))

/-- What the answer of a port to a ring can touch. -/
abbrev answerParts : List Part :=
  [.port1, .fifo1, .port2, .fifo2, .sender, .ring, .survey] ++ leadParts

theorem answerTransfer_changes : changesOnly answerParts s (answerTransfer p s) := by
  unfold answerTransfer
  refine changesOnly.step (changesOnly.step (changesOnly.step ((enterConnected_changes s p).mono ?_)
    (onLoop_changes _ _) ?_) (withdrawBoth_changes _ _) ?_) (startLead_changes _ _ _ _) ?_ <;> cases p <;> decide

theorem connectHeld_changes : changesOnly [portPart p, fifoPart p, .loop] s (connectHeld p s) := by
  refine changesOnly.step ((enterConnected_changes s p).mono ?_) (unpark_changes _) ?_ <;> cases p <;> decide

theorem answerRecall_changes : changesOnly answerParts s (answerRecall p s) := by
  refine changesOnly.step ((connectHeld_changes s p).mono ?_) (withdrawDemand_changes _ p _) ?_ <;>
    cases p <;> decide

theorem declareOffHook_changes : changesOnly answerParts s (declareOffHook p s) := by
  have base : ∀ (x : State), changesOnly answerParts s x → changesOnly answerParts s (abortMeasuring x) :=
    fun x h => h.step (abortMeasuring_changes x) (by decide)
  have surveyed : changesOnly answerParts s (abortMeasuring ((s.onPort p fun q => { q with hook := .off }).onRingOf p
      fun r => { r.silence with sendEnd := none })) :=
    base _ (((onPort_rest s p _ fun _ => by rfl).mono (by cases p <;> decide)).step (onRingOf_changes _ p _)
      (by cases p <;> decide))
  have decided : changesOnly answerParts s
      (if (s.port p).st = .ringing ∧ (s.port p).cause = some .transfer then answerTransfer p
          (abortMeasuring ((s.onPort p fun q => { q with hook := .off }).onRingOf p
            fun r => { r.silence with sendEnd := none }))
       else if (s.port p).st = .ringing ∧ (s.port p).cause = some .recall then answerRecall p
          (abortMeasuring ((s.onPort p fun q => { q with hook := .off }).onRingOf p
            fun r => { r.silence with sendEnd := none }))
       else decideOffHook p
          (abortMeasuring ((s.onPort p fun q => { q with hook := .off }).onRingOf p
            fun r => { r.silence with sendEnd := none }))) :=
    (surveyed.trans (answerTransfer_changes _ p)).ite ((surveyed.trans (answerRecall_changes _ p)).ite
      (surveyed.step (decideOffHook_changes _ p) (by cases p <;> decide)))
  have answered := changesOnly.ite (decided.step (answerCall_changes _) (by decide)) decided
    (c := ((if (s.port p).st = .ringing ∧ (s.port p).cause = some .transfer then answerTransfer p
          (abortMeasuring ((s.onPort p fun q => { q with hook := .off }).onRingOf p
            fun r => { r.silence with sendEnd := none }))
       else if (s.port p).st = .ringing ∧ (s.port p).cause = some .recall then answerRecall p
          (abortMeasuring ((s.onPort p fun q => { q with hook := .off }).onRingOf p
            fun r => { r.silence with sendEnd := none }))
       else decideOffHook p
          (abortMeasuring ((s.onPort p fun q => { q with hook := .off }).onRingOf p
            fun r => { r.silence with sendEnd := none }))).port p).st = .connected)
  unfold declareOffHook
  exact (answered.step (endRinging_changes _ (otherPort p) _) (by cases p <;> decide)).ite answered

/-- What an on-hook, or a digit, can touch. -/
abbrev wideParts : List Part := answerParts ++ [.log, .asked]

theorem declareOnHook_changes : changesOnly wideParts s (declareOnHook p s) := by
  have hung : changesOnly wideParts s (s.onPort p Port.hungUp) :=
    (onPort_rest s p _ fun _ => by rfl).mono (by cases p <;> decide)
  have idle : ∀ x, changesOnly wideParts s x → changesOnly wideParts s (portToIdle p x) :=
    fun x h => h.step (portToIdle_changes x p) (by cases p <;> decide)
  unfold declareOnHook
  split
  · exact (idle _ (hung.step (leaveConnected_changes _ p) (by cases p <;> decide))).step (requestLoop_changes _)
      (by decide)
  · exact idle _ hung
  · exact idle _ hung
  · exact (idle _ hung).step (clearOwn_changes _ _ _) (by decide)
  · exact changesOnly_refl _ s
  · exact changesOnly_refl _ s
  · exact changesOnly_refl _ s

theorem joinFifo_changes (n : Fin 10) : changesOnly [portPart p, fifoPart p] s (joinFifo p n s) :=
  (onPort_changes s p _).ite ((playTone_changes s p _).mono (by cases p <;> decide))

theorem errorUnmuted_changes : changesOnly [portPart p] s (errorUnmuted p s) :=
  (onPort_rest s p _ fun _ => by rfl).trans (playTone_changes _ p _)

theorem offerCall_changes (d : Nat) : changesOnly wideParts s (offerCall p d s) := by
  unfold offerCall
  refine ((errorUnmuted_changes s p).mono (by cases p <;> decide)).ite ?_
  refine changesOnly.step (changesOnly.step ((parkCall_changes s p d).mono ?_) (enterRefused_changes _ p) ?_)
    (playTone_changes _ p _) ?_ <;> cases p <;> decide

theorem retrieveCall_changes : changesOnly wideParts s (retrieveCall p s) := by
  unfold retrieveCall
  split
  · refine changesOnly.step ((endOffer_changes s _).mono ?_) (connectHeld_changes _ p) ?_ <;> cases p <;> decide
  · exact ((errorUnmuted_changes s p).mono (by cases p <;> decide)).ite
      ((playTone_changes s p _).mono (by cases p <;> decide))

theorem flashCode_changes (d : Digit) : changesOnly wideParts s (flashCode p d s) := by
  have error : changesOnly wideParts s (errorUnmuted p s) :=
    (errorUnmuted_changes s p).mono (by cases p <;> decide)
  unfold flashCode
  split
  · exact error
  · exact (onPort_rest s p _ fun _ => by rfl).mono (by cases p <;> decide)
  · exact (retrieveCall_changes s p).ite (changesOnly.ite ((localService_changes s p).mono (by cases p <;> decide))
      (error.ite (offerCall_changes s p _)))

theorem connectedDigit_changes (d : Digit) (b : Bool) : changesOnly wideParts s (connectedDigit p d b s) := by
  have counted : ∀ f : Port → Port, (∀ q, (f q).fifo = q.fifo) → changesOnly wideParts s (s.onPort p f) :=
    fun f h => (onPort_rest s p f h).mono (by cases p <;> decide)
  have entered : ∀ f, (∀ q : Port, (f q).fifo = q.fifo) → changesOnly wideParts s (localService p (s.onPort p f)) :=
    fun f h => (counted f h).step (localService_changes _ p) (by cases p <;> decide)
  have wrong : ∀ f, (∀ q : Port, (f q).fifo = q.fifo) → changesOnly wideParts s (errorUnmuted p (s.onPort p f)) :=
    fun f h => (counted f h).step (errorUnmuted_changes _ p) (by cases p <;> decide)
  have joined : ∀ f n, (∀ q : Port, (f q).fifo = q.fifo) → changesOnly wideParts s (joinFifo p n (s.onPort p f)) :=
    fun f n h => (counted f h).step (joinFifo_changes _ p n) (by cases p <;> decide)
  unfold connectedDigit
  refine changesOnly.ite (entered _ fun _ => rfl) (changesOnly.ite (wrong _ fun _ => rfl) ?_)
  split
  · exact joined _ _ fun _ => rfl
  · exact counted _ fun _ => rfl

theorem serviceCode_changes (d : Digit) : changesOnly wideParts s (serviceCode p d s) := by
  have quiet : changesOnly wideParts s (endAnnouncement p s) :=
    (endAnnouncement_changes s p).mono (by cases p <;> decide)
  have tone : ∀ x k, changesOnly wideParts s x → changesOnly wideParts s (playTone p k x) :=
    fun x k h => h.step (playTone_changes x p k) (by cases p <;> decide)
  unfold serviceCode
  split
  · refine changesOnly.ite (quiet.step (decideOffHook_changes _ p) (by cases p <;> decide)) ?_
    refine changesOnly.ite (quiet.step (startAnnouncement_changes _ p) (by cases p <;> decide)) ?_
    refine changesOnly.ite (tone _ _ (quiet.step (surveyDueNow_changes _) (by decide))) ?_
    exact changesOnly.ite (tone _ _ (quiet.step (onPort_rest _ p _ fun _ => by rfl) (by cases p <;> decide)))
      (tone _ _ quiet)
  · exact tone _ _ quiet
  · exact tone _ _ quiet

theorem restartLockout_changes : changesOnly [portPart p] s (restartLockout p s) := onPort_rest s p _ fun _ => by rfl

theorem routeDigit_changes (d : Digit) (b : Bool) : changesOnly wideParts s (routeDigit p d b s) := by
  have id : changesOnly wideParts s s := changesOnly_refl _ s
  have shut : changesOnly wideParts s (s.onPort p fun q => { q with flashEnd := none }) :=
    (onPort_rest s p _ fun _ => by rfl).mono (by cases p <;> decide)
  have counted : changesOnly wideParts s ((s.onPort p fun q => { q with flashEnd := none }).onPort p Port.countDigit) :=
    shut.step (onPort_rest _ p _ fun _ => by rfl) (by cases p <;> decide)
  have restart : ∀ x, changesOnly wideParts s x → changesOnly wideParts s (restartLockout p x) :=
    fun x h => h.step (restartLockout_changes x p) (by cases p <;> decide)
  have shown : ∀ x k, changesOnly wideParts s x → changesOnly wideParts s (playTone p k x) :=
    fun x k h => h.step (playTone_changes x p k) (by cases p <;> decide)
  unfold routeDigit
  dsimp only
  split
  · exact ((counted.trans (flashCode_changes _ p d)).ite (connectedDigit_changes s p d b))
  · exact (((restart _ shut).trans (retrieveCall_changes _ p)).ite
      (shown _ _ (restart _ shut))).ite (restart _ id)
  · exact (restart _ id).trans (serviceCode_changes _ p d)
  · exact id
  · exact id
  · exact id
  · exact id

theorem countPulse_changes : changesOnly [portPart p] s (countPulse p s) := onPort_rest s p _ fun _ => by rfl

theorem flash_changes : changesOnly [portPart p] s (flash p s) := by
  have ended := onPort_rest s p (fun q => { q with makeStart := some s.now, train := none }) fun _ => rfl
  unfold flash
  dsimp only
  split
  · exact ended.trans (onPort_rest _ p _ fun _ => by rfl)
  · exact ended.trans (onPort_rest _ p _ fun _ => by rfl)
  · exact ended

theorem classifyBreak_changes (b : Nat) : changesOnly [portPart p] s (classifyBreak p b s) :=
  (changesOnly_refl _ s).ite ((countPulse_changes s p).ite (flash_changes s p))

theorem endTrain_changes (n : Nat) : changesOnly wideParts s (endTrain p n s) := by
  have ended : ∀ f : Port → Port, (∀ q, (f q).fifo = q.fifo) → ∀ x, changesOnly wideParts s x →
      changesOnly wideParts s (x.onPort p f) :=
    fun f h x k => k.step (onPort_rest x p f h) (by cases p <;> decide)
  unfold endTrain
  have first := ended (fun q => { q with train := none }) (fun _ => rfl) s (changesOnly_refl _ s)
  have counted := ended (fun q => { q with discards := satInc 255 q.discards }) (fun _ => rfl) _ first
  exact (first.trans (routeDigit_changes _ p _ true)).ite
    ((counted.step (playTone_changes _ p _) (by cases p <;> decide)).ite counted)

end

theorem portsToRefused_changes : changesOnly answerParts s (portsToRefused s) := by
  have one : changesOnly answerParts s (if s.port1.st = .connected then enterRefused .one s else s) :=
    ((enterRefused_changes s .one).mono (by decide)).ite (changesOnly_refl _ s)
  have two := one.step (enterRefused_changes _ .two) (by decide)
  unfold portsToRefused
  exact ((two.ite one).step (requestLoop_changes _) (by decide)).ite (two.ite one)

theorem senderTake_changes : changesOnly [.fifo1, .fifo2, .sender] s (senderTake s) := by
  unfold senderTake
  split
  · rename_i p _ _
    split
    · exact ((onPort_fifo s p _ fun _ => by rfl).mono (by cases p <;> decide)).step (onSender_changes _ _) (by decide)
    · exact changesOnly_refl _ s
  · exact changesOnly_refl _ s

/-! ### The peer table and processing (03, 04) -/

theorem onPeer_changes (n : Nat) (f : Peer → Peer) : changesOnly [.peers] s (onPeer n f s) := onPeers_changes s _

theorem hear_changes (n : Nat) : changesOnly [.peers, .log, .asked] s (hear n s) := by
  have peered : ∀ f, changesOnly [.peers, .log, .asked] s (s.onPeers f) :=
    fun f => (onPeers_changes s f).mono (by decide)
  unfold hear
  split
  · exact (peered _).step (clearOwn_changes _ _ _) (by decide)
  · exact changesOnly.ite (peered _) ((peered _).step (clearOwn_changes _ _ _) (by decide))

/-- What a report of the peer table can touch. -/
abbrev reportParts : List Part := [.hold, .modem, .log, .asked, .resp] ++ ringsParts

theorem reportPeer_changes (n : Nat) (b : Option LoopState) : changesOnly reportParts s (reportPeer n b s) := by
  unfold reportPeer
  exact (((answerCall_changes s).mono (by decide)).ite (changesOnly_refl _ s)).step (review_changes _) (by decide)

/-- What a frame's arrival at the peer table can touch. -/
abbrev peerParts : List Part := .peers :: reportParts

theorem updatePeer_changes (n : Nat) (f : Peer → Peer) : changesOnly peerParts s (updatePeer n f s) := by
  have updated : changesOnly peerParts s (onPeer n f (hear n s)) :=
    ((hear_changes s n).mono (by decide)).step (onPeer_changes _ _ _) (by decide)
  unfold updatePeer
  exact updated.ite (updated.step (reportPeer_changes _ _ _) (by decide))

theorem freeDelivered_changes : changesOnly [.channel] s (freeDelivered s) := onChan_channel s _ (by rfl)

theorem holdDelivered_changes : changesOnly [.channel] s (holdDelivered s) := onChan_channel s _ (by rfl)

theorem considerTransfer_changes (n : Nat) (f : StateFields) :
    changesOnly incomingParts s (considerTransfer n f s) := by
  have offered : ∀ x : State, changesOnly incomingParts s x → changesOnly incomingParts s
      (match f.offer with
       | some (target, parkId) => if target = s.own then createIncoming n parkId x else x
       | none => x) := by
    intro x h
    split
    · exact (h.trans (createIncoming_changes _ _ _)).ite h
    · exact h
  have first := offered _ ((withdrawIncoming_changes s fun r =>
    decide (r.parker = n) && decide (f.offer ≠ some (s.own, r.parkId))).step (dropTook_changes _ n f.offer) (by decide))
  unfold considerTransfer
  dsimp only
  split
  · exact (first.trans (takeHeard_changes _ _ _)).ite first
  · exact first

/-- What a STATE applied can touch. -/
abbrev stateParts : List Part := .time :: .loop :: peerParts

theorem applyState_changes (f : RxFrame) : changesOnly stateParts s (applyState f s) :=
  (((updatePeer_changes s _ _).mono (by decide)).step (considerClock_changes _ _) (by decide)).step
    (considerTransfer_changes _ _ _) (by decide)

theorem applyNotice_changes (f : RxFrame) : changesOnly peerParts s (applyNotice f s) := by
  have updated : ∀ g, changesOnly peerParts s (abortMeasuring (updatePeer f.sender g s)) := fun g =>
    (updatePeer_changes s _ g).step (abortMeasuring_changes _) (by decide)
  unfold applyNotice
  exact ((updated _).step (braceNotice_changes _ _) (by decide)).ite (updated _)

theorem applyCall_changes (f : RxFrame) : changesOnly (.loop :: peerParts) s (applyCall f s) := by
  have updated : changesOnly (.loop :: peerParts) s (updatePeer f.sender id s) :=
    (updatePeer_changes s _ _).mono (by decide)
  unfold applyCall
  dsimp only
  split
  · refine updated.ite ?_
    split
    · exact updated.step (createIncoming_changes _ _ _) (by decide)
    · exact updated.step (withdrawIncoming_changes _ _) (by decide)
    · exact updated.step (takeHeard_changes _ _ _) (by decide)
  · exact updated

theorem applyFault_changes (f : RxFrame) : changesOnly peerParts s (applyFault f s) := by
  unfold applyFault
  exact ((updatePeer_changes s _ _).step (mirror_changes _ _ _) (by decide)).ite (updatePeer_changes s _ _)

theorem applySurvey_changes (f : RxFrame) : changesOnly peerParts s (applySurvey f s) := updatePeer_changes s _ _

/-! ### The management responder (10) -/

theorem takeRequest_changes : changesOnly [.modem] s (takeRequest s) := onModem_rest s _ (by rfl)

theorem respond_changes (r : Request) (a : List Byte) : changesOnly [.modem, .resp] s (respond r a s) :=
  ((onResp_changes s _).mono (by decide)).trans (issue_changes _ _)

theorem deliverAnswer_changes : changesOnly [.log, .resp] s (deliverAnswer s) :=
  ((onLog_rest s _ (by rfl)).mono (by decide)).step (onResp_changes _ _) (by decide)

/-! ### The end of an event -/

theorem showLamps_changes : changesOnly [.lamps, .faultPresent] s (showLamps s) :=
  ((onLamps_changes s _).mono (by decide)).step (onModem_flag _ _ (by rfl)) (by decide)

theorem placeState_changes : changesOnly [.transmit, .announce, .asked] s (placeState s) :=
  (((place_transmit s _ fun _ => by rfl).mono (by decide)).step (onAnnounce_changes _ _) (by decide)).step
    (onLog_asked _ _ (by rfl)) (by decide)

theorem placeFault_changes : changesOnly [.transmit, .asked] s (placeFault s) := by
  unfold placeFault
  exact (((place_transmit s _ fun _ => by rfl).mono (by decide)).step (onLog_asked _ _ (by rfl)) (by decide)).ite
    (changesOnly_refl _ s)

theorem finish_changes (b : Bool) (s0 : State) : changesOnly handedOn s (finish b s0 s) := by
  have shown : changesOnly handedOn s (showLamps (senderTake s)) :=
    ((senderTake_changes s).mono (by decide)).step (showLamps_changes _) (by decide)
  unfold finish
  exact ((shown.step (placeState_changes _) (by decide)).ite shown).step (placeFault_changes _) (by decide)

/-- The end of an event takes at most the oldest digit of a FIFO. -/
theorem finish_fifo (b : Bool) (s0 : State) :
    servedFrom s.port1.fifo (finish b s0 s).port1.fifo ∧ servedFrom s.port2.fifo (finish b s0 s).port2.fifo := by
  have later : changesOnly [.lamps, .faultPresent, .transmit, .announce, .asked] (senderTake s) (finish b s0 s) := by
    have shown := (showLamps_changes (senderTake s)).mono
      (by decide : ∀ x ∈ [Part.lamps, .faultPresent], x ∈ [Part.lamps, .faultPresent, .transmit, .announce, .asked])
    unfold finish
    exact ((shown.step (placeState_changes _) (by decide)).ite shown).step (placeFault_changes _) (by decide)
  have one : (finish b s0 s).port1.fifo = (senderTake s).port1.fifo := later .fifo1 (by decide)
  have two : (finish b s0 s).port2.fifo = (senderTake s).port2.fifo := later .fifo2 (by decide)
  rw [one, two]
  unfold senderTake servedFrom
  split
  · rename_i p _ _
    split
    · cases p <;> simp_all [State.port, State.onPort, State.onSender]
    · simp
  · simp

/-- The frame of a command, from the frame of its effect. -/
theorem finish_leaves (b : Bool) (s0 : State) {ps : List Part} (h : changesOnly ps s0 s) :
    leaves ps s0 (finish b s0 s) := by
  refine ⟨?_, ?_, ?_⟩
  · intro x hx
    exact Part.same_trans (h x fun hp => hx (List.mem_append.mpr (.inr hp)))
      (finish_changes s b s0 x fun hp => hx (List.mem_append.mpr (.inl hp)))
  · intro hn
    have e : s.port1.fifo = s0.port1.fifo := h .fifo1 hn
    rw [← e]
    exact (finish_fifo s b s0).1
  · intro hn
    have e : s.port2.fifo = s0.port2.fifo := h .fifo2 hn
    rw [← e]
    exact (finish_fifo s b s0).2

/-! ### What the end of an event leaves -/

section
variable (b : Bool) (s0 : State)

@[simp] theorem finish_ring : (finish b s0 s).ring = s.ring := (finish_changes s b s0).ring
@[simp] theorem finish_line : (finish b s0 s).line = s.line := (finish_changes s b s0).line
@[simp] theorem finish_loop : (finish b s0 s).loop = s.loop := (finish_changes s b s0).loop
@[simp] theorem finish_peers : (finish b s0 s).peers = s.peers := (finish_changes s b s0).peers
@[simp] theorem finish_time : (finish b s0 s).time = s.time := (finish_changes s b s0).time
@[simp] theorem finish_hold : (finish b s0 s).hold = s.hold := (finish_changes s b s0).hold
@[simp] theorem finish_survey : (finish b s0 s).survey = s.survey := (finish_changes s b s0).survey
@[simp] theorem finish_resp : (finish b s0 s).resp = s.resp := (finish_changes s b s0).resp
@[simp] theorem finish_loader : (finish b s0 s).loader = s.loader := (finish_changes s b s0).loader
@[simp] theorem finish_pending : (finish b s0 s).pending = s.pending := (finish_changes s b s0).pending
@[simp] theorem finish_now : (finish b s0 s).now = s.now := congrArg TimeKeeping.uptime (finish_time s b s0)
@[simp] theorem finish_own : (finish b s0 s).own = s.own := congrArg Loader.station (finish_loader s b s0)
@[simp] theorem finish_isModem : (finish b s0 s).isModem = s.isModem := congrArg Loader.modem (finish_loader s b s0)
@[simp] theorem finish_profile : (finish b s0 s).profile = s.profile := congrArg Loader.profile (finish_loader s b s0)
@[simp] theorem finish_ringOf (p : PortId) : (finish b s0 s).ringOf p = s.ringOf p := by simp [State.ringOf]

theorem finish_rest (p : PortId) : ((finish b s0 s).port p).rest = (s.port p).rest := by
  cases p
  · exact (finish_changes s b s0).port1
  · exact (finish_changes s b s0).port2

theorem finish_still : (finish b s0 s).chan.still = s.chan.still := (finish_changes s b s0).still
theorem finish_modem : (finish b s0 s).modem.rest = s.modem.rest := (finish_changes s b s0).modem
theorem finish_log : (finish b s0 s).log.rest = s.log.rest := (finish_changes s b s0).log

section
variable (p : PortId)
@[simp] theorem finish_port_st : ((finish b s0 s).port p).st = (s.port p).st :=
  (congrArg Port.st (finish_rest s b s0 p) :)
@[simp] theorem finish_port_cause : ((finish b s0 s).port p).cause = (s.port p).cause :=
  (congrArg Port.cause (finish_rest s b s0 p) :)
@[simp] theorem finish_port_hook : ((finish b s0 s).port p).hook = (s.port p).hook :=
  (congrArg Port.hook (finish_rest s b s0 p) :)
@[simp] theorem finish_port_level : ((finish b s0 s).port p).level = (s.port p).level :=
  (congrArg Port.level (finish_rest s b s0 p) :)
@[simp] theorem finish_port_makeStart : ((finish b s0 s).port p).makeStart = (s.port p).makeStart :=
  (congrArg Port.makeStart (finish_rest s b s0 p) :)
@[simp] theorem finish_port_breakStart : ((finish b s0 s).port p).breakStart = (s.port p).breakStart :=
  (congrArg Port.breakStart (finish_rest s b s0 p) :)
@[simp] theorem finish_port_train : ((finish b s0 s).port p).train = (s.port p).train :=
  (congrArg Port.train (finish_rest s b s0 p) :)
@[simp] theorem finish_port_flashEnd : ((finish b s0 s).port p).flashEnd = (s.port p).flashEnd :=
  (congrArg Port.flashEnd (finish_rest s b s0 p) :)
@[simp] theorem finish_port_digitsSeen : ((finish b s0 s).port p).digitsSeen = (s.port p).digitsSeen :=
  (congrArg Port.digitsSeen (finish_rest s b s0 p) :)
@[simp] theorem finish_port_hashWin : ((finish b s0 s).port p).hashWin = (s.port p).hashWin :=
  (congrArg Port.hashWin (finish_rest s b s0 p) :)
@[simp] theorem finish_port_mute : ((finish b s0 s).port p).mute = (s.port p).mute :=
  (congrArg Port.mute (finish_rest s b s0 p) :)
@[simp] theorem finish_port_discards : ((finish b s0 s).port p).discards = (s.port p).discards :=
  (congrArg Port.discards (finish_rest s b s0 p) :)
@[simp] theorem finish_port_lockoutEnd : ((finish b s0 s).port p).lockoutEnd = (s.port p).lockoutEnd :=
  (congrArg Port.lockoutEnd (finish_rest s b s0 p) :)
@[simp] theorem finish_port_tone : ((finish b s0 s).port p).tone = (s.port p).tone :=
  (congrArg Port.tone (finish_rest s b s0 p) :)
@[simp] theorem finish_port_ann : ((finish b s0 s).port p).ann = (s.port p).ann :=
  (congrArg Port.ann (finish_rest s b s0 p) :)
@[simp] theorem finish_port_pair : ((finish b s0 s).port p).pair = (s.port p).pair :=
  (congrArg Port.pair (finish_rest s b s0 p) :)
@[simp] theorem finish_port_restartAt : ((finish b s0 s).port p).restartAt = (s.port p).restartAt :=
  (congrArg Port.restartAt (finish_rest s b s0 p) :)
end

@[simp] theorem finish_chan_noticeSlot : (finish b s0 s).chan.noticeSlot = s.chan.noticeSlot :=
  (congrArg Channel.noticeSlot (finish_still s b s0) :)
@[simp] theorem finish_chan_callSlot : (finish b s0 s).chan.callSlot = s.chan.callSlot :=
  (congrArg Channel.callSlot (finish_still s b s0) :)
@[simp] theorem finish_chan_surveySlot : (finish b s0 s).chan.surveySlot = s.chan.surveySlot :=
  (congrArg Channel.surveySlot (finish_still s b s0) :)
@[simp] theorem finish_chan_flight : (finish b s0 s).chan.flight = s.chan.flight :=
  (congrArg Channel.flight (finish_still s b s0) :)
@[simp] theorem finish_chan_began : (finish b s0 s).chan.began = s.chan.began :=
  (congrArg Channel.began (finish_still s b s0) :)
@[simp] theorem finish_chan_window : (finish b s0 s).chan.window = s.chan.window :=
  (congrArg Channel.window (finish_still s b s0) :)
@[simp] theorem finish_chan_carrier : (finish b s0 s).chan.carrier = s.chan.carrier :=
  (congrArg Channel.carrier (finish_still s b s0) :)
@[simp] theorem finish_chan_rx : (finish b s0 s).chan.rx = s.chan.rx := (congrArg Channel.rx (finish_still s b s0) :)
@[simp] theorem finish_chan_slots : (finish b s0 s).chan.slots = s.chan.slots :=
  (congrArg Channel.slots (finish_still s b s0) :)
@[simp] theorem finish_chan_clashEnd : (finish b s0 s).chan.clashEnd = s.chan.clashEnd :=
  (congrArg Channel.clashEnd (finish_still s b s0) :)
@[simp] theorem finish_chan_sent : (finish b s0 s).chan.sent = s.chan.sent :=
  (congrArg Channel.sent (finish_still s b s0) :)
@[simp] theorem finish_chan_collisions : (finish b s0 s).chan.collisions = s.chan.collisions :=
  (congrArg Channel.collisions (finish_still s b s0) :)
@[simp] theorem finish_chan_checkFails : (finish b s0 s).chan.checkFails = s.chan.checkFails :=
  (congrArg Channel.checkFails (finish_still s b s0) :)
@[simp] theorem finish_chan_formatErrs : (finish b s0 s).chan.formatErrs = s.chan.formatErrs :=
  (congrArg Channel.formatErrs (finish_still s b s0) :)
@[simp] theorem finish_chan_overruns : (finish b s0 s).chan.overruns = s.chan.overruns :=
  (congrArg Channel.overruns (finish_still s b s0) :)
@[simp] theorem finish_chan_received : (finish b s0 s).chan.received = s.chan.received :=
  (congrArg Channel.received (finish_still s b s0) :)

@[simp] theorem finish_modem_slot : (finish b s0 s).modem.slot = s.modem.slot :=
  (congrArg ModemPort.slot (finish_modem s b s0) :)
@[simp] theorem finish_modem_queue : (finish b s0 s).modem.queue = s.modem.queue :=
  (congrArg ModemPort.queue (finish_modem s b s0) :)
@[simp] theorem finish_modem_link : (finish b s0 s).modem.link = s.modem.link :=
  (congrArg ModemPort.link (finish_modem s b s0) :)
@[simp] theorem finish_modem_level : (finish b s0 s).modem.level = s.modem.level :=
  (congrArg ModemPort.level (finish_modem s b s0) :)
@[simp] theorem finish_modem_braced : (finish b s0 s).modem.braced = s.modem.braced :=
  (congrArg ModemPort.braced (finish_modem s b s0) :)
@[simp] theorem finish_modem_linkUp : (finish b s0 s).modem.linkUp = s.modem.linkUp :=
  (congrArg ModemPort.linkUp (finish_modem s b s0) :)
@[simp] theorem finish_modem_requestWaiting : (finish b s0 s).modem.requestWaiting = s.modem.requestWaiting :=
  (congrArg ModemPort.requestWaiting (finish_modem s b s0) :)
@[simp] theorem finish_modem_request : (finish b s0 s).modem.request = s.modem.request :=
  (congrArg ModemPort.request (finish_modem s b s0) :)

@[simp] theorem finish_log_records : (finish b s0 s).log.records = s.log.records :=
  (congrArg FaultLog.records (finish_log s b s0) :)
@[simp] theorem finish_log_seqCounter : (finish b s0 s).log.seqCounter = s.log.seqCounter :=
  (congrArg FaultLog.seqCounter (finish_log s b s0) :)
@[simp] theorem finish_log_overflow : (finish b s0 s).log.overflow = s.log.overflow :=
  (congrArg FaultLog.overflow (finish_log s b s0) :)
@[simp] theorem finish_log_run : (finish b s0 s).log.run = s.log.run := (congrArg FaultLog.run (finish_log s b s0) :)
@[simp] theorem finish_log_pendingRun : (finish b s0 s).log.pendingRun = s.log.pendingRun :=
  (congrArg FaultLog.pendingRun (finish_log s b s0) :)
@[simp] theorem finish_log_reference : (finish b s0 s).log.reference = s.log.reference :=
  (congrArg FaultLog.reference (finish_log s b s0) :)

end

/-- Where nothing of what an event hands on has changed, its end changes nothing. -/
theorem finish_settled (s0 : State) (h : Settled s0) (announced : s.announced = s0.announced)
    (one : s.eligible .one = false ∨ s.eligible .one = s0.eligible .one)
    (two : s.eligible .two = false ∨ s.eligible .two = s0.eligible .two)
    (sender : s.sender = s0.sender) (lamps : s.lamps = s0.lamps)
    (role : s.hold.role = s0.hold.role) (active : s.log.anyActive = s0.log.anyActive)
    (asked : s.log.snapshotAsked = s0.log.snapshotAsked) (present : s.modem.faultPresent = s0.modem.faultPresent)
    (strap : s.isModem = s0.isModem) : finish false s0 s = s := by
  have take : senderTake s = s := by
    unfold senderTake
    split
    · rename_i p free next
      have none1 : s.eligible .one = false := by
        rcases one with h1 | h1
        · exact h1
        · rw [h1]; exact (h.sender (by rw [← sender]; exact free)).1
      have none2 : s.eligible .two = false := by
        rcases two with h2 | h2
        · exact h2
        · rw [h2]; exact (h.sender (by rw [← sender]; exact free)).2
      simp only [State.nextServed] at next
      cases hl : s.sender.lastServed <;> simp [hl, otherPort, none1, none2] at next
    · rfl
  have show_ : showLamps s = s := by
    have line : lineLampFor s.hold.role s.now s.lamps.line = s.lamps.line := by
      have shows := h.lamps.line
      rw [lamps, role]
      revert shows
      unfold lineLampFor LineLamp.shows
      cases s0.hold.role <;> cases s0.lamps.line <;> simp [Role.flashes]
    have fault : s.log.anyActive = s.lamps.fault := by rw [active, lamps, h.lamps.fault]
    have flag : (s.isModem && s.log.anyActive) = s.modem.faultPresent := by
      rw [active, strap, present, h.lamps.present]
    unfold showLamps
    simp only [State.onLamps, State.onModem, line, fault]
    rw [← fault, flag, fault]
  have quiet : s.log.snapshotAsked = false := by rw [asked]; exact h.lamps.asked
  unfold finish
  simp [take, show_, announced, placeFault, quiet]

end Sys2Proof.Machine
end

