-- ==== Sys2Proof/Laws/Finish.lean ====
section
/-! SUPPORT. What placing a frame does to the transmit slots and the transmitter's wait, and what the end of an event
hands on: the lamps and the flag, the STATE, the FAULT, and the line-side tone sender's next digit. -/

namespace Sys2Proof.Machine

variable (s : State)

/-! ### Placing a frame (R43, R45, R49) -/

theorem startWait_chan : (startWait s).chan =
    { s.chan with tx := .waiting, count := Config.backoffDraw s.chan.draws % s.chan.window, draws := s.chan.draws + 1,
                  gapMet := false, quietFrom := if s.chan.carrierPresent then none else some s.now } := rfl

/-- A frame placed while the transmitter is not IDLE: the slot, and the jam timer if the channel was not busy. -/
theorem place_waiting (put : Channel → Channel) (h : s.chan.tx ≠ .idle) :
    (place put s).chan =
      if s.chan.busy then put s.chan else { put s.chan with jamEnd := some (s.now + 30000) } := by
  unfold place
  simp only [h, if_false]
  split <;> rfl

/-- A frame placed while the transmitter is IDLE begins a wait. -/
theorem place_idle (put : Channel → Channel) (h : s.chan.tx = .idle) :
    (place put s).chan =
      (startWait (if s.chan.busy then s.onChan put
        else (s.onChan put).onChan fun c => { c with jamEnd := some (s.now + 30000) })).chan := by
  unfold place
  simp only [h, if_true]
  rfl

/-- A projection that neither the wait nor the jam timer touches. -/
theorem place_keeps {α : Type} (put : Channel → Channel) (g : Channel → α)
    (jam : ∀ c d, g { c with jamEnd := d } = g c)
    (wait : ∀ c n k q, g { c with tx := .waiting, count := n, draws := k, gapMet := false, quietFrom := q } = g c) :
    g (place put s).chan = g (put s.chan) := by
  by_cases h : s.chan.tx = .idle
  · rw [place_idle s put h, startWait_chan, wait]
    split
    · rfl
    · exact jam _ _
  · rw [place_waiting s put h]
    split
    · rfl
    · exact jam _ _

/-! ### The lamps (R101, R178, R179) -/

@[simp] theorem showLamps_lamps :
    (showLamps s).lamps = { line := lineLampFor s.hold.role s.now s.lamps.line, fault := s.log.anyActive } := rfl

@[simp] theorem showLamps_present : (showLamps s).modem.faultPresent = (s.isModem && s.log.anyActive) := rfl

/-! ### The state that is handed on, before any frame is placed -/

/-- The state with its lamps and the tone sender's next digit, from which the STATE and the FAULT are built. -/
def handed : State := showLamps (senderTake s)

theorem handed_changes : changesOnly [.fifo1, .fifo2, .sender, .lamps, .faultPresent] s (handed s) :=
  ((senderTake_changes s).mono (by decide)).step (showLamps_changes _) (by decide)

theorem handed_log : (handed s).log = s.log := by
  have e := (handed_changes s).log
  have f := (handed_changes s).asked
  have split : ∀ l : FaultLog, l = { l.rest with snapshotAsked := l.snapshotAsked } := fun _ => rfl
  rw [split (handed s).log, split s.log, e, f]

theorem handed_chan : (handed s).chan = s.chan := (handed_changes s).chan

theorem handed_announce : (handed s).announce = s.announce := (handed_changes s).announce

theorem handed_stateFields : (handed s).stateFields = s.stateFields := by
  have h := handed_changes s
  have p1 : (handed s).port1.st = s.port1.st := (congrArg Port.st h.port1 :)
  have p2 : (handed s).port2.st = s.port2.st := (congrArg Port.st h.port2 :)
  have b : (handed s).modem.braced = s.modem.braced := (congrArg ModemPort.braced h.modem :)
  simp only [State.stateFields, State.offer, h.loader, h.loop, h.hold, h.time, handed_log, p1, p2, b]

theorem handed_announced : (handed s).announced = s.announced := by
  simp only [State.announced, handed_stateFields]

/-! ### The end of an event -/

section
variable (b : Bool) (s0 : State)

/-- An event places a STATE: it must, or a field of R61 has changed. -/
def placesState : Bool := b || decide (s.announced ≠ s0.announced)

theorem finish_eq : finish b s0 s = placeFault (if placesState s b s0 then placeState (handed s) else handed s) := by
  unfold finish placesState handed
  have e : (showLamps (senderTake s)).announced = s.announced := handed_announced s
  simp only [e]

theorem finish_lamps : (finish b s0 s).lamps =
    { line := lineLampFor s.hold.role s.now s.lamps.line, fault := s.log.anyActive } := by
  have base : (handed s).lamps = { line := lineLampFor s.hold.role s.now s.lamps.line, fault := s.log.anyActive } := by
    have h := senderTake_changes s
    have l : (senderTake s).log.records = s.log.records := (congrArg FaultLog.records h.log :)
    simp only [handed, showLamps_lamps, FaultLog.anyActive, l, State.now, h.hold, h.time, h.lamps]
  rw [finish_eq, (placeFault_changes _).lamps, ← base]
  split
  · exact (placeState_changes _).lamps
  · rfl

theorem finish_present : (finish b s0 s).modem.faultPresent = (s.isModem && s.log.anyActive) := by
  have base : (handed s).modem.faultPresent = (s.isModem && s.log.anyActive) := by
    have h := senderTake_changes s
    have l : (senderTake s).log.records = s.log.records := (congrArg FaultLog.records h.log :)
    simp only [handed, showLamps_present, FaultLog.anyActive, l, State.isModem, h.loader]
  rw [finish_eq, (placeFault_changes _).faultPresent, ← base]
  split
  · exact (placeState_changes _).faultPresent
  · rfl

theorem finish_asked : (finish b s0 s).log.snapshotAsked = false := by
  have quiet : ∀ x : State, (placeFault x).log.snapshotAsked = false := by
    intro x
    unfold placeFault
    split
    · rfl
    · simp_all
  exact quiet _

theorem finish_sender : (finish b s0 s).sender = (senderTake s).sender := by
  rw [finish_eq, (placeFault_changes _).sender]
  split
  · exact (placeState_changes _).sender.trans (showLamps_changes _).sender
  · exact (showLamps_changes _).sender

theorem finish_stateFields : (finish b s0 s).stateFields = s.stateFields := by
  have h := finish_changes s b s0
  have p1 : (finish b s0 s).port1.st = s.port1.st := (congrArg Port.st h.port1 :)
  have p2 : (finish b s0 s).port2.st = s.port2.st := (congrArg Port.st h.port2 :)
  simp only [State.stateFields, State.offer, FaultLog.ownActive, finish_loader, finish_loop, finish_hold, finish_time,
    finish_log_records, finish_modem_braced, p1, p2]

theorem finish_announced : (finish b s0 s).announced = s.announced := by
  simp only [State.announced, finish_stateFields]

theorem finish_snapshot : (finish b s0 s).log.snapshot = s.log.snapshot := by
  simp only [FaultLog.snapshot, finish_log_records]

/-- R61, R62: the announce timer and the placement count. -/
theorem finish_announce : (finish b s0 s).announce =
    if placesState s b s0 then
      { timerEnd := some (s.now + 1000 * s.profile.announceInterval)
        count := if 9 ≤ s.announce.count then 0 else s.announce.count + 1 }
    else s.announce := by
  rw [finish_eq, (placeFault_changes _).announce]
  split
  · have h := handed_changes s
    have p : ∀ put, (place put (handed s)).announce = s.announce :=
      fun put => (place_changes _ put).announce.trans h.announce
    simp only [placeState, State.onLog, State.onAnnounce, p, State.deadline, State.now, State.profile, h.time, h.loader,
      h.announce]
    simp
  · exact handed_announce s

theorem placeState_slot : (placeState s).chan.stateSlot = some s.stateFields := by
  have e : (placeState s).chan = (place (fun c => { c with stateSlot := some s.stateFields }) s).chan := rfl
  rw [e]
  exact place_keeps s _ Channel.stateSlot (fun _ _ => rfl) (fun _ _ _ _ => rfl)

theorem placeState_fault : (placeState s).chan.faultSlot = s.chan.faultSlot := by
  have e : (placeState s).chan = (place (fun c => { c with stateSlot := some s.stateFields }) s).chan := rfl
  rw [e]
  exact place_keeps s _ Channel.faultSlot (fun _ _ => rfl) (fun _ _ _ _ => rfl)

theorem placeFault_slot : (placeFault s).chan.stateSlot = s.chan.stateSlot := by
  unfold placeFault
  split
  · exact place_keeps s _ Channel.stateSlot (fun _ _ => rfl) (fun _ _ _ _ => rfl)
  · rfl

theorem placeFault_fault : (placeFault s).chan.faultSlot =
    if s.log.snapshotAsked then some s.log.snapshot else s.chan.faultSlot := by
  unfold placeFault
  split
  · exact place_keeps s _ Channel.faultSlot (fun _ _ => rfl) (fun _ _ _ _ => rfl)
  · rfl

/-- R61: the STATE slot. -/
theorem finish_stateSlot : (finish b s0 s).chan.stateSlot =
    if placesState s b s0 then some s.stateFields else s.chan.stateSlot := by
  rw [finish_eq, placeFault_slot]
  split
  · rw [placeState_slot, handed_stateFields]
  · rw [handed_chan]

/-- R62, R158: the FAULT slot. -/
theorem finish_faultSlot : (finish b s0 s).chan.faultSlot =
    if s.log.snapshotAsked || (placesState s b s0 && decide (9 ≤ s.announce.count)) then some s.log.snapshot
    else s.chan.faultSlot := by
  have asked : (placeState (handed s)).log.snapshotAsked = (s.log.snapshotAsked || decide (9 ≤ s.announce.count)) := by
    have e := ((place_changes (handed s) (fun c => { c with stateSlot := some (handed s).stateFields })).asked).trans
      (handed_changes s).asked
    simp only [placeState, State.onLog, State.onAnnounce, handed_announce]
    rw [e]
  have snap : (placeState (handed s)).log.snapshot = s.log.snapshot := by
    have e := ((placeState_changes (handed s)).log).trans (handed_changes s).log
    have r : (placeState (handed s)).log.records = s.log.records :=
      (congrArg FaultLog.records e :)
    simp only [FaultLog.snapshot, r]
  rw [finish_eq, placeFault_fault]
  by_cases h : placesState s b s0 = true
  · simp only [h, if_true, asked, snap, placeState_fault, handed_chan, Bool.true_and]
  · have n : placesState s b s0 = false := by simpa using h
    simp [n, handed_log, handed_chan]

/-- While the transmitter is not IDLE, the end of an event does not touch its wait. -/
theorem finish_wait (h : s.chan.tx ≠ .idle) :
    (finish b s0 s).chan.tx = s.chan.tx ∧ (finish b s0 s).chan.count = s.chan.count ∧
    (finish b s0 s).chan.gapMet = s.chan.gapMet ∧ (finish b s0 s).chan.quietFrom = s.chan.quietFrom ∧
    (finish b s0 s).chan.draws = s.chan.draws := by
  have fault : ∀ x : State, x.chan.tx ≠ .idle →
      (placeFault x).chan.tx = x.chan.tx ∧ (placeFault x).chan.count = x.chan.count ∧
      (placeFault x).chan.gapMet = x.chan.gapMet ∧ (placeFault x).chan.quietFrom = x.chan.quietFrom ∧
      (placeFault x).chan.draws = x.chan.draws := by
    intro x hx
    unfold placeFault
    split
    · simp only [State.onLog, place_waiting x _ hx]
      split <;> simp
    · simp
  have state : ∀ x : State, x.chan.tx ≠ .idle →
      (placeState x).chan.tx = x.chan.tx ∧ (placeState x).chan.count = x.chan.count ∧
      (placeState x).chan.gapMet = x.chan.gapMet ∧ (placeState x).chan.quietFrom = x.chan.quietFrom ∧
      (placeState x).chan.draws = x.chan.draws := by
    intro x hx
    simp only [placeState, State.onLog, State.onAnnounce, place_waiting x _ hx]
    split <;> simp
  have hh : (handed s).chan.tx ≠ .idle := by rw [handed_chan]; exact h
  rw [finish_eq]
  split
  · have a := state (handed s) hh
    have c := fault _ (by rw [a.1]; exact hh)
    rw [c.1, c.2.1, c.2.2.1, c.2.2.2.1, c.2.2.2.2, a.1, a.2.1, a.2.2.1, a.2.2.2.1, a.2.2.2.2, handed_chan]
    simp
  · have c := fault _ hh
    rw [c.1, c.2.1, c.2.2.1, c.2.2.2.1, c.2.2.2.2, handed_chan]
    simp

end

end Sys2Proof.Machine
end

