-- ==== Sys2Proof/WellFormed.lean ====
section
/-! DEFINITION. Which commands name something that the row's rule allows. An ill-formed command names no event
of the table; its meaning leaves the state as it is (assumption 2), but that POWER_UP reads no more than 24 bytes of
its memory (R181). -/

namespace Sys2Proof

/-- A station number, 1–8 (R180). -/
def stationOk (n : Nat) : Bool := decide (1 ≤ n) && decide (n ≤ 8)

/-- The row's own condition on its operands: at most 24 bytes from the memory (R181), a transfer code 1–8 (R16),
a refused flash code other than 0 (R15), a refused service code 4 to 9, star or # (R22), the
latest 16 bits from the pair (R51), a body length byte above 32 (R52), a body of at most 32 bytes (R42), a peer's
station number 1–8 (R63). -/
def Instr.wellFormed : Instr → Bool
  | .powerUp _ memory => decide (memory.length ≤ 24)
  | .transfer _ station => stationOk station
  | .flashCodeRefused _ d => decide (d ≠ .num 0)
  | .serviceCodeRefused _ d => decide (d ≠ .num 0 ∧ d ≠ .num 1 ∧ d ≠ .num 2 ∧ d ≠ .num 3)
  | .syncFound bits => decide (bits.length = 16)
  | .bodyLengthTooLong len => decide (32 < len.toNat)
  | .frameEnd _ body _ => decide (body.length ≤ 32)
  | .peerSilenceExpiry n => stationOk n
  | .peerRemovalExpiry n => stationOk n
  | _ => true

end Sys2Proof
end

