-- ==== Sys2Proof/Tests/Slice0.lean ====
section
/-! SUPPORT. The model's own tests: for each check of well-formedness a term it refuses, the manual's worked cases, and
for each statement with hypotheses a state and operands that meet them, clause by clause. -/

namespace Sys2Proof.Tests

open Sys2Proof Sys2Proof.Machine

/-! ### States to test on -/

/-- A quiet station at 100 s of uptime, nothing waiting to be sent. -/
def base : State :=
  { State.reset with
    time := { uptime := 100000, clock := none, secTaken := 100 }
    chan := { State.reset.chan with stateSlot := none, tx := .idle, count := 0, quietFrom := none, jamEnd := none } }

/-- A port off hook in a state. -/
def off (st : PortState) : Port :=
  { Port.atReset with
    st := st, hook := .off, level := .make, lockoutEnd := if st = .loc ∨ st = .refused then some 150000 else none }

/-- A port that rings with a cause, its make 50 ms old. -/
def ringing (c : RingCause) : Port :=
  { Port.atReset with st := .ringing, cause := some c, level := .make, makeStart := some 99950 }

/-- The quiet station with another port 1. -/
def onOne (q : Port) : State := { base with port1 := q }

/-- The quiet station in another role, its LINE lamp following. -/
def inRole (r : Role) : State :=
  { base with hold := { base.hold with role := r }, lamps := { base.lamps with line := lineLampFor r 100000 .off } }

/-- A frame of station 2. -/
def from2 (k : FrameKind) (body : List Byte) : RxFrame := { kind := k, sender := 2, body := body }

/-- The body of a STATE with an offer, a took-transfer and a clock. -/
def stateBody (offer took : Option (Nat × Nat)) (clock : Option CarriedClock) : List Byte :=
  StateFields.bytes { StateFields.atReset with offer := offer, took := took, clock := clock }

/-- The station with one frame delivered. -/
def hears (f : RxFrame) (s : State) : State := { s with chan := { s.chan with slots := [.delivered f] } }

/-- A quiet station without the modem strap. -/
def noModem : State := { base with loader := { base.loader with modem := false } }

/-- Figures of a healthy line, as the worked case of R142 has them. -/
def someFigures : Figures :=
  { number := 255, measured := 90, vOpen := 1600, feed := some 1628, atLimit := false, imbalance := some 111,
    grade := 7, offset := 0 }

/-- A record of station 1. -/
def record (seq : Nat) (cls : FaultClass) (st : RecState) (reported : Bool) (qual : Option Nat) : Record :=
  { seq := seq, cls := cls, origin := 1, qual := qual, source := .own, st := st, reported := reported, first := 10,
    last := 20, stamp := none, count := 255, value := none }

/-- An ACTIVE record that mirrors one of station 2. -/
def mirrored (seq : Nat) (cls : FaultClass) (value : Nat) : Record :=
  { record seq cls .active true none with origin := 2, source := .mirrored, value := some value }

/-- The quiet station with records in its log, one of them ACTIVE. -/
def faulty (records : List Record) : State :=
  { base with
    log := { base.log with records := records }, lamps := { base.lamps with fault := true }
    modem := { base.modem with faultPresent := true } }

/-- A station with the link up and a request in its slot, tagged 7. -/
def asked (code : Byte) (s : State) : State :=
  s.onModem fun m => { m with link := .up, request := some { code := code, tag := 7 } }

/-! ### Invariants of a concrete state, from what `decide` can tell -/

theorem settled_of (s : State)
    (h : (s.lamps.fault = s.log.anyActive ∧ s.modem.faultPresent = (s.isModem && s.log.anyActive)
        ∧ s.lamps.line.shows s.hold.role = true ∧ s.log.snapshotAsked = false)
      ∧ (s.sender.sender = .free → s.eligible .one = false ∧ s.eligible .two = false)) : Settled s :=
  ⟨⟨h.1.1, h.1.2.1, h.1.2.2.1, h.1.2.2.2⟩, h.2⟩

theorem channel_of (s : State) (none : s.chan.slots = [])
    (h : (s.chan.tx = .idle ↔ (s.chan.pending = false ∧ s.chan.flight = .none))
      ∧ (s.chan.tx = .sending ↔ s.chan.flight.isSome = true)
      ∧ (s.chan.window = 8 ∨ s.chan.window = 16 ∨ s.chan.window = 32 ∨ s.chan.window = 64)
      ∧ (s.chan.tx = .waiting → s.chan.count < s.chan.window) ∧ s.chan.rx ≠ .frame) : ChannelOk s :=
  ⟨h.1, h.2.1, h.2.2.1, h.2.2.2.1, by simp [none], by simp [none, h.2.2.2.2], by simp [none], by simp [none]⟩

theorem clock_of (s : State) (c : DayClock) (clock : s.time.clock = some c)
    (h : validTime c.month c.day c.hour c.minute = true ∧ c.second ≤ 59) : ClockOk s := by
  intro d hd; rw [clock] at hd; cases hd; exact h

theorem line_of (s : State)
    (h : (s.line.useRun ≤ 3 ∧ (s.line.st = .inUse ↔ s.line.useRun = 3))
      ∧ (s.line.lowRun ≤ 40 ∧ (s.line.st ≠ .dead → s.line.lowRun < 40))
      ∧ (s.line.drop ≤ 40 ∧ (s.line.st ≠ .inUse → s.line.drop = 0))
      ∧ s.line.goodRun ≤ 40 ∧ (s.line.st = .dead → s.line.goodRun = s.line.useRun)) : LineOk s :=
  ⟨h.1, h.2.1, h.2.2.1, h.2.2.2⟩

theorem loop_of (s : State) (park : s.loop.park = none) (incoming : s.loop.incoming = none)
    (h : (s.loop.loop = .closed → s.someConnected = true ∨ s.loop.recallState ≠ .none ∨ s.loop.lead.isSome = true)
      ∧ s.loop.loop ≠ .hold ∧ s.loop.recallState = .none ∧ 1 ≤ s.loop.lastParkId ∧ s.loop.lastParkId ≤ 15) :
    LoopOk s :=
  ⟨h.1, by simp [park, h.2.1], by simp [h.2.2.1], by simp [h.2.2.1], by simp [incoming], h.2.2.2, by simp [park]⟩

theorem loopTaking_of (s : State) (park : s.loop.park = none)
    (incoming : s.loop.incoming = some { parker := 2, parkId := 15, taking := some .one, expiry := 90000 })
    (connected : (s.port .one).st = .connected)
    (h : s.loop.loop = .opened ∧ s.loop.recallState = .none ∧ 1 ≤ s.loop.lastParkId ∧ s.loop.lastParkId ≤ 15) :
    LoopOk s :=
  ⟨by simp [h.1], by simp [park, h.1], by simp [h.2.1], by simp [h.2.1],
   by rintro r p hr hp; rw [incoming] at hr; cases hr; cases hp; exact connected, h.2.2, by simp [park]⟩

/-! ### For each statement with hypotheses, its witnesses -/

theorem witness_HookEdges :
    (∃ (p : PortId) (s : State), Settled s ∧ (s.port p).st ≠ .absent ∧ (s.port p).hook = .on ∧
      (s.port p).level = .brk) ∧
    (∃ (p : PortId) (s : State), Settled s ∧ (s.port p).st ≠ .absent ∧ (s.port p).hook = .on ∧
      (s.port p).level = .make ∧ (s.port p).makeStart.any (fun m => decide (m + 50 ≤ s.now)) = false) ∧
    (∃ (p : PortId) (s : State), Settled s ∧ (s.port p).st ≠ .absent ∧ (s.port p).hook = .off ∧
      (s.port p).level = .make) ∧
    (∃ (p : PortId) (b : Nat) (s : State), Settled s ∧ (s.port p).breakStart = some b ∧
      (s.port p).st ≠ .absent ∧ (s.port p).hook = .off ∧ (s.port p).level = .brk ∧ s.now < b + 20) ∧
    (∃ (p : PortId) (b : Nat) (s : State), Settled s ∧ (s.port p).breakStart = some b ∧
      (s.port p).st ≠ .absent ∧ (s.port p).hook = .off ∧ (s.port p).level = .brk ∧ b + 20 ≤ s.now ∧ s.now < b + 100) ∧
    (∃ (p : PortId) (b : Nat) (s : State), Settled s ∧ (s.port p).breakStart = some b ∧
      (s.port p).st ≠ .absent ∧ (s.port p).hook = .off ∧ (s.port p).level = .brk ∧ b + 100 ≤ s.now ∧
      s.now < b + 700 ∧ (s.port p).st = .connected) ∧
    (∃ (p : PortId) (b : Nat) (s : State), Settled s ∧ (s.port p).breakStart = some b ∧
      (s.port p).st ≠ .absent ∧ (s.port p).hook = .off ∧ (s.port p).level = .brk ∧ b + 100 ≤ s.now ∧
      s.now < b + 700 ∧ (s.port p).st = .refused) ∧
    (∃ (p : PortId) (b : Nat) (s : State), Settled s ∧ (s.port p).breakStart = some b ∧
      (s.port p).st ≠ .absent ∧ (s.port p).hook = .off ∧ (s.port p).level = .brk ∧ b + 100 ≤ s.now ∧
      s.now < b + 700 ∧ ((s.port p).st = .loc ∨ (s.port p).st = .lockout)) :=
  ⟨⟨.one, onOne (Port.atReset), settled_of _ (by decide), by decide⟩,
   ⟨.one, onOne { Port.atReset with level := .make, makeStart := some 99951 }, settled_of _ (by decide),
    by decide⟩,
   ⟨.one, onOne (off .connected), settled_of _ (by decide), by decide⟩,
   ⟨.one, 99981, onOne { off .connected with level := .brk, breakStart := some (100000 - 19) },
    settled_of _ (by decide), by decide⟩,
   ⟨.one, 99980, onOne { off .connected with level := .brk, breakStart := some (100000 - 20) },
    settled_of _ (by decide), by decide⟩,
   ⟨.one, 99301, onOne { off .connected with level := .brk, breakStart := some (100000 - 699) },
    settled_of _ (by decide), by decide⟩,
   ⟨.one, 99900, onOne { off .refused with level := .brk, breakStart := some (100000 - 100) },
    settled_of _ (by decide), by decide⟩,
   ⟨.one, 99301, onOne { off .lockout with level := .brk, breakStart := some (100000 - 699) },
    settled_of _ (by decide), by decide⟩⟩

theorem witness_OffHookDecision :
    ∃ (p : PortId) (m : Nat) (s : State), (s.port p).makeStart = some m ∧ (s.port p).st = .idle ∧
      (s.port p).hook = .on ∧ (s.port p).level = .make ∧ m + 50 ≤ s.now :=
  ⟨.one, 99950, onOne { Port.atReset with level := .make, makeStart := some 99950 }, by decide⟩

theorem witness_OffHookAnswers :
    (∃ (p : PortId) (m : Nat) (s : State), (s.port p).makeStart = some m ∧ (s.port p).st = .ringing ∧
      (s.port p).cause = some .exchange ∧ (s.port p).hook = .on ∧ (s.port p).level = .make ∧ m + 50 ≤ s.now) ∧
    (∃ (p : PortId) (m : Nat) (s : State), (s.port p).makeStart = some m ∧ (s.port p).st = .ringing ∧
      (s.port p).cause = some .transfer ∧ (s.port p).hook = .on ∧ (s.port p).level = .make ∧ m + 50 ≤ s.now) ∧
    (∃ (p : PortId) (m : Nat) (s : State), (s.port p).makeStart = some m ∧ (s.port p).st = .ringing ∧
      (s.port p).cause = some .recall ∧ (s.port p).hook = .on ∧ (s.port p).level = .make ∧ m + 50 ≤ s.now) :=
  ⟨⟨.one, 99950, onOne (ringing .exchange), by decide⟩,
   ⟨.one, 99950, onOne (ringing .transfer), by decide⟩,
   ⟨.one, 99950, onOne (ringing .recall), by decide⟩⟩

theorem witness_OnHook :
    (∃ (p : PortId) (b : Nat) (s : State), (s.port p).breakStart = some b ∧ (s.port p).st = .connected ∧
      (s.port p).hook = .off ∧ b + 700 ≤ s.now) ∧
    (∃ (p : PortId) (b : Nat) (s : State), (s.port p).breakStart = some b ∧ ((s.port p).st = .loc ∨
      (s.port p).st = .refused) ∧ (s.port p).hook = .off ∧ b + 700 ≤ s.now) ∧
    (∃ (p : PortId) (b : Nat) (s : State), (s.port p).breakStart = some b ∧ (s.port p).st = .lockout ∧
      (s.port p).hook = .off ∧ b + 700 ≤ s.now) :=
  ⟨⟨.one, 99300, onOne { off .connected with level := .brk, breakStart := some (100000 - 700) }, by decide⟩,
   ⟨.one, 99300, onOne { off .loc with level := .brk, breakStart := some (100000 - 700) }, by decide⟩,
   ⟨.one, 99300, onOne { off .lockout with level := .brk, breakStart := some (100000 - 700) }, by decide⟩⟩

theorem witness_PulseTrainEnd :
    (∃ (p : PortId) (n m : Nat) (s : State), Settled s ∧ (s.port p).train = some n ∧
      (s.port p).makeStart = some m ∧ (s.port p).st = .connected ∧ (s.port p).breakStart = none ∧
      m + 300 ≤ s.now ∧ (s.port p).flashEnd = none ∧ (s.port p).hashWin.any HashWindow.afterFlash = false ∧
      n ≤ 10 ∧ (s.port p).fifo.length < 16 ∧ s.sender.sender ≠ .free) ∧
    (∃ (p : PortId) (n m : Nat) (s : State), Settled s ∧ (s.port p).train = some n ∧
      (s.port p).makeStart = some m ∧ (s.port p).st = .connected ∧ (s.port p).breakStart = none ∧
      m + 300 ≤ s.now ∧ (s.port p).flashEnd = none ∧ (s.port p).hashWin.any HashWindow.afterFlash = false ∧
      n ≤ 10 ∧ s.sender.sender = .free ∧ s.loop.loop = .closed ∧ s.loop.recallState = .none ∧
      s.eligible (otherPort p) = false) ∧
    (∃ (p : PortId) (n m : Nat) (s : State), Settled s ∧ (s.port p).train = some n ∧
      (s.port p).makeStart = some m ∧ (s.port p).st = .connected ∧ (s.port p).breakStart = none ∧
      m + 300 ≤ s.now ∧ (s.port p).flashEnd = none ∧ (s.port p).hashWin.any HashWindow.afterFlash = false ∧
      n ≤ 10 ∧ (s.port p).fifo.length < 16 ∧ s.sender.sender = .free ∧ (s.loop.loop ≠ .closed ∨
      s.loop.recallState ≠ .none)) ∧
    (∃ (p : PortId) (n m : Nat) (s : State), Settled s ∧ (s.port p).train = some n ∧
      (s.port p).makeStart = some m ∧ (s.port p).st = .connected ∧ (s.port p).breakStart = none ∧
      m + 300 ≤ s.now ∧ (s.port p).flashEnd = none ∧ (s.port p).hashWin.any HashWindow.afterFlash = false ∧
      n ≤ 10 ∧ (s.port p).fifo.length = 16) ∧
    (∃ (p : PortId) (n m : Nat) (s : State), Settled s ∧ (s.port p).train = some n ∧
      (s.port p).makeStart = some m ∧ (s.port p).st = .connected ∧ (s.port p).breakStart = none ∧
      m + 300 ≤ s.now ∧ 10 < n) ∧
    (∃ (p : PortId) (n m : Nat) (s : State), Settled s ∧ (s.port p).train = some n ∧
      (s.port p).makeStart = some m ∧ (s.port p).st ≠ .connected ∧ (s.port p).breakStart = none ∧
      m + 300 ≤ s.now ∧ 10 < n) ∧
    (∃ (p : PortId) (n m : Nat) (s : State), Settled s ∧ (s.port p).train = some n ∧
      (s.port p).makeStart = some m ∧ (s.port p).st = .connected ∧ (s.port p).breakStart = none ∧
      m + 300 ≤ s.now ∧ (s.port p).flashEnd = none ∧ (s.port p).hashWin.any HashWindow.afterFlash = true ∧ n ≤ 10) ∧
    (∃ (p : PortId) (n m : Nat) (s : State), Settled s ∧ (s.port p).train = some n ∧
      (s.port p).makeStart = some m ∧ (s.port p).st = .refused ∧ (s.port p).flashEnd = none ∧
      (s.port p).breakStart = none ∧ m + 300 ≤ s.now ∧ n ≤ 10) ∧
    (∃ (p : PortId) (n m : Nat) (s : State), Settled s ∧ (s.port p).train = some n ∧
      (s.port p).makeStart = some m ∧ (s.port p).st = .lockout ∧ (s.port p).breakStart = none ∧ m + 300 ≤ s.now ∧
      n ≤ 10) ∧
    (∃ (p : PortId) (n m : Nat) (c : Instr) (s : State), (s.port p).train = some n ∧
      (s.port p).makeStart = some m ∧ s.codeRow p (.num (Fin.ofNat 10 n)) = some c ∧
      (s.port p).breakStart = none ∧ m + 300 ≤ s.now ∧ n ≤ 10) :=
  ⟨⟨.one, 10, 99700,
    (onOne { off .connected with train := some 10, makeStart := some 99700, fifo := List.replicate 15 3 })
      |>.onSender fun u => { u with sender := .silence 100001 },
    settled_of _ (by decide), by decide⟩,
   ⟨.one, 1, 99700,
    (onOne { off .connected with train := some 1, makeStart := some 99700 })
      |>.onLoop fun u => { u with loop := .closed },
    settled_of _ (by decide), by decide⟩,
   ⟨.one, 1, 99700,
    onOne { off .connected with train := some 1, makeStart := some 99700, fifo := List.replicate 15 3 },
    settled_of _ (by decide), by decide⟩,
   ⟨.one, 1, 99700,
    (onOne { off .connected with train := some 1, makeStart := some 99700, fifo := List.replicate 16 3 })
      |>.onSender fun u => { u with sender := .silence 100001 },
    settled_of _ (by decide), by decide⟩,
   ⟨.one, 11, 99700, onOne { off .connected with train := some 11, makeStart := some 99700 },
    settled_of _ (by decide), by decide⟩,
   ⟨.one, 11, 99700, onOne { off .loc with train := some 11, makeStart := some 99700 }, settled_of _ (by decide),
    by decide⟩,
   ⟨.one, 2, 99700,
    onOne { off .connected with
        train := some 2, makeStart := some 99700, hashWin := some { expiry := 100001, afterFlash := true } },
    settled_of _ (by decide), by decide⟩,
   ⟨.one, 10, 99700, onOne { off .refused with train := some 10, makeStart := some 99700 },
    settled_of _ (by decide), by decide⟩,
   ⟨.one, 10, 99700, onOne { off .lockout with train := some 10, makeStart := some 99700 },
    settled_of _ (by decide), by decide⟩,
   ⟨.one, 10, 99700, .leaveLocal .one, onOne { off .loc with train := some 10, makeStart := some 99700 },
    by decide⟩⟩

theorem witness_ToneDigits :
    (∃ (p : PortId) (_d : Digit) (s : State), Settled s ∧ ((s.port p).st = .connected ∨
      (s.port p).st = .loc ∨ (s.port p).st = .refused)) ∧
    (∃ (p : PortId) (k : TonePair) (s : State), Settled s ∧ (s.port p).pair = some k) ∧
    (∃ (p : PortId) (_d : Digit) (s : State), (s.port p).st ≠ .connected ∧ (s.port p).st ≠ .loc ∧
      (s.port p).st ≠ .refused) ∧
    (∃ (p : PortId) (k : TonePair) (s : State), (s.port p).pair = some k ∧ (k.recognised = true ∨
      s.now < k.onset + 40)) ∧
    (∃ (p : PortId) (s : State), (s.port p).pair = none) ∧
    (∃ (p : PortId) (s : State), (s.port p).st ≠ .connected ∧ (s.port p).st ≠ .loc ∧ (s.port p).st ≠ .refused) ∧
    (∃ (p : PortId) (k : TonePair) (s : State), Settled s ∧ (s.port p).pair = some k ∧
      (s.port p).st = .connected ∧ k.recognised = false ∧ k.onset + 40 ≤ s.now ∧
      (s.port p).flashEnd = none ∧ (s.port p).hashWin = none ∧ (k.digit ≠ .hash ∨ (s.port p).digitsSeen ≠ 0)) ∧
    (∃ (p : PortId) (k : TonePair) (s : State), Settled s ∧ (s.port p).pair = some k ∧
      (s.port p).st = .connected ∧ k.recognised = false ∧ k.onset + 40 ≤ s.now ∧
      (s.port p).flashEnd = none ∧ (s.port p).hashWin = none ∧ k.digit = .hash ∧ (s.port p).digitsSeen = 0) ∧
    (∃ (p : PortId) (k : TonePair) (s : State), Settled s ∧ (s.port p).pair = some k ∧
      (s.port p).st = .refused ∧ k.recognised = false ∧ k.onset + 40 ≤ s.now ∧ (s.port p).flashEnd = none) ∧
    (∃ (p : PortId) (k : TonePair) (w : HashWindow) (s : State), Settled s ∧ (s.port p).pair = some k ∧
      (s.port p).hashWin = some w ∧ (s.port p).st = .connected ∧ k.recognised = false ∧
      k.onset + 40 ≤ s.now ∧ (s.port p).flashEnd = none ∧ w.afterFlash = true ∧ k.digit ≠ .hash) ∧
    (∃ (p : PortId) (k : TonePair) (w : HashWindow) (s : State), Settled s ∧ (s.port p).pair = some k ∧
      (s.port p).hashWin = some w ∧ (s.port p).st = .connected ∧ k.recognised = false ∧
      k.onset + 40 ≤ s.now ∧ (s.port p).flashEnd = none ∧ w.afterFlash = false ∧ k.digit ≠ .hash) ∧
    (∃ (p : PortId) (k : TonePair) (c : Instr) (s : State), (s.port p).pair = some k ∧
      s.codeRow p k.digit = some c ∧ k.recognised = false ∧ k.onset + 40 ≤ s.now) :=
  ⟨⟨.one, .star, onOne (off .loc), settled_of _ (by decide), by decide⟩,
   ⟨.one, { digit := .star, onset := 99960, recognised := false },
    onOne { off .connected with pair := some { digit := .star, onset := 99960, recognised := false } },
    settled_of _ (by decide), by decide⟩,
   ⟨.one, .star, onOne (off .lockout), by decide⟩,
   ⟨.one, { digit := .star, onset := 99961, recognised := false },
    onOne { off .connected with pair := some { digit := .star, onset := 99961, recognised := false } }, by decide⟩,
   ⟨.one, onOne (off .connected), by decide⟩,
   ⟨.one, onOne (off .lockout), by decide⟩,
   ⟨.one, { digit := .num 9, onset := 99960, recognised := false },
    onOne { off .connected with pair := some { digit := .num 9, onset := 99960, recognised := false } },
    settled_of _ (by decide), by decide⟩,
   ⟨.one, { digit := .hash, onset := 99960, recognised := false },
    onOne { off .connected with pair := some { digit := .hash, onset := 99960, recognised := false } },
    settled_of _ (by decide), by decide⟩,
   ⟨.one, { digit := .hash, onset := 99960, recognised := false },
    onOne { off .refused with pair := some { digit := .hash, onset := 99960, recognised := false } },
    settled_of _ (by decide), by decide⟩,
   ⟨.one, { digit := .star, onset := 99960, recognised := false }, { expiry := 100001, afterFlash := true },
    onOne { off .connected with
        pair := some { digit := .star, onset := 99960, recognised := false },
        hashWin := some { expiry := 100001, afterFlash := true } },
    settled_of _ (by decide), by decide⟩,
   ⟨.one, { digit := .star, onset := 99960, recognised := false }, { expiry := 100001, afterFlash := false },
    onOne { off .connected with
        pair := some { digit := .star, onset := 99960, recognised := false },
        hashWin := some { expiry := 100001, afterFlash := false } },
    settled_of _ (by decide), by decide⟩,
   ⟨.one, { digit := .hash, onset := 99960, recognised := false }, .hashHashEntry .one,
    onOne { off .connected with
        pair := some { digit := .hash, onset := 99960, recognised := false },
        hashWin := some { expiry := 100001, afterFlash := false } },
    by decide⟩⟩

theorem witness_ToneSender :
    (∃ (q : PortId) (d : Fin 10) (e : Nat) (s : State), Settled s ∧ s.sender.sender = .tone q d e ∧ e ≤ s.now) ∧
    (∃ (e : Nat) (s : State), Settled s ∧ s.sender.sender = .silence e ∧ e ≤ s.now ∧
      s.eligible .one = false ∧ s.eligible .two = false) ∧
    (∃ (p : PortId) (e : Nat) (d : Fin 10) (ds : List (Fin 10)) (s : State), Settled s ∧
      s.sender.sender = .silence e ∧ (s.port p).fifo = d :: ds ∧ e ≤ s.now ∧
      s.eligible p = true ∧ (s.sender.lastServed ≠ p ∨ s.eligible (otherPort p) = false)) :=
  ⟨⟨.one, 3, 100000, base.onSender fun u => { u with sender := .tone .one 3 100000 }, settled_of _ (by decide),
    by decide⟩,
   ⟨100000, base.onSender fun u => { u with sender := .silence 100000 }, settled_of _ (by decide), by decide⟩,
   ⟨.one, 100000, 3, [4],
    ((onOne { off .connected with fifo := [3, 4] }).onLoop fun u => { u with loop := .closed })
      |>.onSender fun u => { u with sender := .silence 100000, lastServed := .one },
    settled_of _ (by decide), by decide⟩⟩

theorem witness_TransferOffer :
    (∃ (p : PortId) (d : Nat) (s : State), (s.port p).st = .connected ∧ (s.port p).flashEnd.isSome = true ∧
      1 ≤ d ∧ d ≤ 8 ∧ d ≠ s.own ∧ (s.peerPresent d = false ∨ (s.port (otherPort p)).st = .connected ∨
      s.loop.loop ≠ .closed ∨ s.loop.recallState ≠ .none)) ∧
    (∃ (p : PortId) (d : Nat) (s : State), (s.port p).st = .connected ∧ (s.port p).flashEnd.isSome = true ∧
      1 ≤ d ∧ d ≤ 8 ∧ d ≠ s.own ∧ s.peerPresent d = true ∧ (s.port (otherPort p)).st ≠ .connected ∧
      s.loop.loop = .closed ∧ s.loop.recallState = .none) :=
  ⟨⟨.one, 8, onOne { off .connected with flashEnd := some 100001 }, by decide⟩,
   ⟨.one, 2,
    ((onOne { off .connected with flashEnd := some 100001 }).onLoop fun u => { u with loop := .closed })
      |>.onPeers fun _ => [Peer.create 2 90000],
    by decide⟩⟩

theorem witness_FlashCodeRefusals :
    (∃ (p : PortId) (d : Digit) (s : State), (s.port p).st = .connected ∧ (s.port p).flashEnd.isSome = true ∧
      1 ≤ s.own ∧ s.own ≤ 8 ∧ (match d with | .num n => decide (n.val = s.own) | .star => true | .hash => false) =
      true) ∧
    (∃ (p : PortId) (d : Digit) (s : State), (s.port p).st = .refused ∧ (s.port p).flashEnd.isSome = true ∧
      d ≠ .num 0) :=
  ⟨⟨.one, .num 1, onOne { off .connected with flashEnd := some 100001 }, by decide⟩,
   ⟨.one, .num 9, onOne { off .refused with flashEnd := some 100001 }, by decide⟩⟩

theorem witness_EnterLocal :
    (∃ (p : PortId) (s : State), (s.port p).st = .connected ∧ (s.port p).flashEnd.isSome = true) ∧
    (∃ (p : PortId) (s : State), Settled s ∧ (s.port p).st = .connected ∧ (s.port p).flashEnd = none ∧
      (s.port p).hashWin = none ∧ (s.port p).digitsSeen = 0) ∧
    (∃ (p : PortId) (s : State), (s.port p).st = .connected ∧ (s.port p).flashEnd.isSome = true) ∧
    (∃ (p : PortId) (s : State), (s.port p).st = .connected ∧ (s.port p).flashEnd = none ∧
      (s.port p).hashWin.isSome = true) :=
  ⟨⟨.one, onOne { off .connected with flashEnd := some 100001 }, by decide⟩,
   ⟨.one, onOne (off .connected), settled_of _ (by decide), by decide⟩,
   ⟨.one, onOne { off .connected with flashEnd := some 100001 }, by decide⟩,
   ⟨.one, onOne { off .connected with hashWin := some { expiry := 100001, afterFlash := true } }, by decide⟩⟩

theorem witness_RetrieveParkedCall :
    (∃ (p : PortId) (k : Park) (s : State), s.loop.park = some k ∧ ((s.port p).st = .connected ∨
      (s.port p).st = .refused) ∧ (s.port p).flashEnd.isSome = true ∧ k.port = p ∧ k.phase ≠ .releasing) ∧
    (∃ (p : PortId) (s : State), (s.port p).st = .connected ∧ (s.port p).flashEnd.isSome = true ∧
      ((s.loop.park.all fun k => decide (k.port ≠ p ∨ k.phase = .releasing)) = true)) ∧
    (∃ (p : PortId) (s : State), (s.port p).st = .refused ∧ (s.port p).flashEnd.isSome = true ∧
      ((s.loop.park.all fun k => decide (k.port ≠ p ∨ k.phase = .releasing)) = true)) :=
  ⟨⟨.one, { target := 2, parkId := 15, port := .one, start := 60000, phase := .offered, expiry := some 100000 },
    (onOne { off .refused with flashEnd := some 100001 })
      |>.onLoop fun u => { u with
          loop := .hold,
          park := some {
            target := 2, parkId := 15, port := .one, start := 60000, phase := .offered, expiry := some 100000 } },
    by decide⟩,
   ⟨.one, onOne { off .connected with flashEnd := some 100001 }, by decide⟩,
   ⟨.one, onOne { off .refused with flashEnd := some 100001 }, by decide⟩⟩

theorem witness_PortTimerExpiries :
    (∃ (p : PortId) (d : Nat) (s : State), (s.port p).flashEnd = some d ∧ (s.port p).st = .connected ∧
      d ≤ s.now ∧ s.loop.loop = .closed ∧ s.loop.recallState = .none) ∧
    (∃ (p : PortId) (d : Nat) (s : State), (s.port p).flashEnd = some d ∧ (s.port p).st = .connected ∧
      d ≤ s.now ∧ (s.loop.loop ≠ .closed ∨ s.loop.recallState ≠ .none)) ∧
    (∃ (p : PortId) (d : Nat) (s : State), Settled s ∧ (s.port p).flashEnd = some d ∧ (s.port p).st = .refused ∧
      d ≤ s.now) ∧
    (∃ (p : PortId) (w : HashWindow) (s : State), Settled s ∧ (s.port p).hashWin = some w ∧ w.expiry ≤ s.now) ∧
    (∃ (p : PortId) (d : Nat) (s : State), (s.port p).lockoutEnd = some d ∧ ((s.port p).st = .loc ∨
      (s.port p).st = .refused) ∧ d ≤ s.now) :=
  ⟨⟨.one, 100000,
    (onOne { off .connected with flashEnd := some 100000 }).onLoop fun u => { u with loop := .closed }, by decide⟩,
   ⟨.one, 100000, onOne { off .connected with flashEnd := some 100000 }, by decide⟩,
   ⟨.one, 100000, onOne { off .refused with flashEnd := some 100000 }, settled_of _ (by decide), by decide⟩,
   ⟨.one, { expiry := 100000, afterFlash := true },
    onOne { off .connected with hashWin := some { expiry := 100000, afterFlash := true } },
    settled_of _ (by decide), by decide⟩,
   ⟨.one, 100000, onOne { off .loc with lockoutEnd := some 100000 }, by decide⟩⟩

theorem witness_ServiceCodes :
    (∃ (p : PortId) (s : State), Settled s ∧ (s.port p).st = .loc) ∧
    (∃ (p : PortId) (s : State), (s.port p).st = .loc) ∧
    (∃ (p : PortId) (s : State), Settled s ∧ (s.port p).st = .loc) ∧
    (∃ (p : PortId) (d : Digit) (s : State), Settled s ∧ (s.port p).st = .loc ∧ d ≠ .num 0 ∧ d ≠ .num 1 ∧
      d ≠ .num 2 ∧ d ≠ .num 3) ∧
    (∃ (p : PortId) (s : State), (s.port p).st = .loc) :=
  ⟨⟨.one, onOne (off .loc), settled_of _ (by decide), by decide⟩,
   ⟨.one, onOne (off .loc), by decide⟩,
   ⟨.one, onOne (off .loc), settled_of _ (by decide), by decide⟩,
   ⟨.one, .num 4, onOne (off .loc), settled_of _ (by decide), by decide⟩,
   ⟨.one, onOne (off .loc), by decide⟩⟩

theorem witness_TonesAndAnnouncements :
    (∃ (p : PortId) (a : Announcement) (s : State), Settled s ∧ (s.port p).ann = some a ∧ a.ends ≤ s.now ∧
      a.phase = .beep) ∧
    (∃ (p : PortId) (a : Announcement) (s : State), Settled s ∧ (s.port p).ann = some a ∧ a.ends ≤ s.now ∧
      a.phase = .silence ∧ 1 < a.beeps) ∧
    (∃ (p : PortId) (a : Announcement) (s : State), Settled s ∧ (s.port p).ann = some a ∧ a.ends ≤ s.now ∧
      a.phase = .silence ∧ a.beeps ≤ 1) ∧
    (∃ (p : PortId) (a : Announcement) (s : State), Settled s ∧ (s.port p).ann = some a ∧ a.ends ≤ s.now ∧
      a.phase = .gap ∧ a.place + 1 < a.list.length) ∧
    (∃ (p : PortId) (a : Announcement) (s : State), Settled s ∧ (s.port p).ann = some a ∧ a.ends ≤ s.now ∧
      (a.phase = .allClear ∨ (a.phase = .gap ∧ a.list.length ≤ a.place + 1)) ∧ (s.port p).st = .loc ∧
      (s.port p).tone = .announcing) ∧
    (∃ (p : PortId) (k : OneShot) (e : Nat) (s : State), Settled s ∧ (s.port p).tone = .oneShot k e ∧ e ≤ s.now) ∧
    (∃ (p : PortId) (on : Bool) (e : Nat) (s : State), Settled s ∧ (s.port p).tone = .stateTone on e ∧
      e ≤ s.now ∧ (s.port p).st = .refused) ∧
    (∃ (p : PortId) (on : Bool) (e : Nat) (s : State), Settled s ∧ (s.port p).tone = .stateTone on e ∧
      e ≤ s.now ∧ (s.port p).st = .loc) :=
  ⟨⟨.one, { list := [(1, 15)], place := 0, beeps := 15, phase := .beep, ends := 100000 },
    onOne { off .loc with
        tone := .announcing,
        ann := some { list := [(1, 15)], place := 0, beeps := 15, phase := .beep, ends := 100000 } },
    settled_of _ (by decide), by decide⟩,
   ⟨.one, { list := [(1, 15)], place := 0, beeps := 2, phase := .silence, ends := 100000 },
    onOne { off .loc with
        tone := .announcing,
        ann := some { list := [(1, 15)], place := 0, beeps := 2, phase := .silence, ends := 100000 } },
    settled_of _ (by decide), by decide⟩,
   ⟨.one, { list := [(1, 15)], place := 0, beeps := 1, phase := .silence, ends := 100000 },
    onOne { off .loc with
        tone := .announcing,
        ann := some { list := [(1, 15)], place := 0, beeps := 1, phase := .silence, ends := 100000 } },
    settled_of _ (by decide), by decide⟩,
   ⟨.one, { list := [(1, 15), (2, 11)], place := 0, beeps := 0, phase := .gap, ends := 100000 },
    onOne { off .loc with
        tone := .announcing,
        ann := some { list := [(1, 15), (2, 11)], place := 0, beeps := 0, phase := .gap, ends := 100000 } },
    settled_of _ (by decide), by decide⟩,
   ⟨.one, { list := [(1, 15)], place := 0, beeps := 0, phase := .gap, ends := 100000 },
    onOne { off .loc with
        tone := .announcing,
        ann := some { list := [(1, 15)], place := 0, beeps := 0, phase := .gap, ends := 100000 } },
    settled_of _ (by decide), by decide⟩,
   ⟨.one, .error, 100000, onOne { off .refused with tone := .oneShot .error 100000 }, settled_of _ (by decide),
    by decide⟩,
   ⟨.one, false, 100000, onOne { off .refused with tone := .stateTone false 100000 }, settled_of _ (by decide),
    by decide⟩,
   ⟨.one, true, 100000, onOne { off .loc with tone := .stateTone true 100000 }, settled_of _ (by decide),
    by decide⟩⟩

theorem witness_RingDetector :
    (∃ (s : State), Settled s ∧ s.ring.burst = .quiet) ∧
    (∃ (s : State), Settled s ∧ s.ring.burst = .ending) ∧
    (∃ (s : State), Settled s ∧ s.ring.burst = .starting) ∧
    (∃ (s : State), Settled s ∧ s.ring.burst = .burst) :=
  ⟨⟨base, settled_of _ (by decide), by decide⟩,
   ⟨base.onRing fun r => { r with burst := .ending }, settled_of _ (by decide), by decide⟩,
   ⟨base.onRing fun r => { r with burst := .starting, voltage := true }, settled_of _ (by decide), by decide⟩,
   ⟨base.onRing fun r => { r with burst := .burst, voltage := true }, settled_of _ (by decide), by decide⟩⟩

theorem witness_BurstStart :
    (∃ (s : State), s.ring.burst = .starting ∧ s.ring.burstSince + 100 ≤ s.now ∧ s.ring.call = .none) ∧
    (∃ (s : State), s.ring.burst = .starting ∧ s.ring.burstSince + 100 ≤ s.now ∧ s.ring.call = .inProgress) ∧
    (∃ (s : State), s.ring.burst = .starting ∧ s.ring.burstSince + 100 ≤ s.now ∧ s.ring.call = .answered) :=
  ⟨⟨base.onRing fun r => { r with burst := .starting, burstSince := 99900, voltage := true, call := .none },
    by decide⟩,
   ⟨base.onRing fun r => { r with burst := .starting, burstSince := 99900, voltage := true, call := .inProgress },
    by decide⟩,
   ⟨base.onRing fun r => { r with burst := .starting, burstSince := 99900, voltage := true, call := .answered },
    by decide⟩⟩

theorem witness_BurstEndAndQuietTimer :
    (∃ (s : State), s.ring.burst = .ending ∧ s.ring.burstSince + 100 ≤ s.now) ∧
    (∃ (d : Nat) (s : State), s.ring.quietEnd = some d ∧ d ≤ s.now ∧ s.ring.call = .inProgress) ∧
    (∃ (d : Nat) (s : State), Settled s ∧ s.ring.quietEnd = some d ∧ d ≤ s.now ∧ s.ring.call ≠ .inProgress) :=
  ⟨⟨base.onRing fun r => { r with burst := .ending, burstSince := 99900, call := .inProgress }, by decide⟩,
   ⟨100000, base.onRing fun r => { r with quietEnd := some 100000, call := .inProgress, burstNo := 1 }, by decide⟩,
   ⟨100000, base.onRing fun r => { r with quietEnd := some 100000, call := .answered }, settled_of _ (by decide),
    by decide⟩⟩

theorem witness_PatternsAndOverload :
    (∃ (p : PortId) (k : Pattern) (i e : Nat) (s : State), (s.ringOf p).mode = .pattern k i true e ∧ e ≤ s.now) ∧
    (∃ (p : PortId) (k : Pattern) (i e : Nat) (s : State), Settled s ∧ (s.ringOf p).mode = .pattern k i false e ∧
      e ≤ s.now ∧ (s.ringOf p).gateSince = none) ∧
    (∃ (p : PortId) (s : State), (s.port p).st = .ringing ∧ (s.ringOf p).gateSince.isSome = true ∧
      (s.ringOf p).cut = false) :=
  ⟨⟨.one, .recall, 3, 100000,
    (onOne (ringing .recall))
      |>.onRing fun r => { r with
          ring1 := { PortRing.atReset with mode := .pattern .recall 3 true 100000, gateSince := some 99800 } },
    by decide⟩,
   ⟨.one, .transfer, 1, 100000,
    (onOne (ringing .transfer))
      |>.onRing fun r => { r with
          ring1 := { PortRing.atReset with mode := .pattern .transfer 1 false 100000, gateSince := none } },
    settled_of _ (by decide), by decide⟩,
   ⟨.one,
    (onOne (ringing .transfer))
      |>.onRing fun r => { r with
          ring1 := { PortRing.atReset with mode := .pattern .transfer 0 true 100000, gateSince := some 99800 } },
    by decide⟩⟩

theorem witness_CallerDisplay :
    (∃ (d : Nat) (s : State), Settled s ∧ s.ring.callerEnd = some d ∧ d ≤ s.now) ∧
    (∃ (s : State), Settled s ∧ s.ring.callerEnd.isSome = true) ∧
    (∃ (m : CallerMessage) (s : State), Settled s ∧ s.ring.receiving = true ∧ (m.sum ≠ 0 ∨
      m.dateTime.length ≠ 8 ∨ m.number.any (fun n => decide (18 < n.length)) = true ∨
      m.name.any (fun n => decide (20 < n.length)) = true)) ∧
    (∃ (m : CallerMessage) (s : State), s.ring.receiving = true ∧ m.sum = 0 ∧ m.dateTime.length = 8 ∧
      m.number.any (fun n => decide (18 < n.length)) = false ∧
      m.name.any (fun n => decide (20 < n.length)) = false ∧ s.ring.overwrites ≤ 255) ∧
    (∃ (p : PortId) (d : Nat) (s : State), Settled s ∧ (s.ringOf p).sendEnd = some d ∧ d ≤ s.now) :=
  ⟨⟨100000, base.onRing fun r => { r with callerEnd := some 100000 }, settled_of _ (by decide), by decide⟩,
   ⟨base.onRing fun r => { r with callerEnd := some 100001 }, settled_of _ (by decide), by decide⟩,
   ⟨{ sum := 0, dateTime := [1, 2, 3, 1, 2, 3, 5, 9], number := some (List.replicate 19 5),
      name := some (List.replicate 20 65), withheld := .none },
    base.onRing fun r => { r with callerEnd := some 100001, receiving := true }, settled_of _ (by decide),
    by decide⟩,
   ⟨{ sum := 0, dateTime := [1, 2, 3, 1, 2, 3, 5, 9], number := some (List.replicate 18 5),
      name := some (List.replicate 20 65), withheld := .none },
    base.onRing fun r => { r with callerEnd := some 100001, receiving := true }, by decide⟩,
   ⟨.one, 100000, base.onRing fun r => { r with ring1 := { PortRing.atReset with sendEnd := some 100000 } },
    settled_of _ (by decide), by decide⟩⟩

theorem witness_CarrierAndGap :
    (∃ (s : State), Settled s) ∧
    (∃ (s : State), Settled s ∧ s.chan.flight = none ∧ s.chan.carrier = true ∧ s.chan.rx = .frame) ∧
    (∃ (s : State), Settled s ∧ s.chan.flight = none ∧ s.chan.carrier = true ∧ s.chan.rx ≠ .frame) ∧
    (∃ (s : State), Settled s ∧ s.chan.flight ≠ none) ∧
    (∃ (q : Nat) (s : State), Settled s ∧ s.chan.quietFrom = some q ∧ s.chan.tx = .waiting ∧
      s.chan.carrier = false ∧ s.chan.flight = none ∧ q + 20 ≤ s.now ∧ s.chan.gapMet = false ∧ s.chan.count ≠ 0) ∧
    (∃ (q : Nat) (s : State), Settled s ∧ s.chan.quietFrom = some q ∧ s.chan.tx = .waiting ∧
      s.chan.carrier = false ∧ s.chan.flight = none ∧ q + 10 ≤ s.now ∧ s.chan.gapMet = true ∧ 1 < s.chan.count) :=
  ⟨⟨base, settled_of _ (by decide)⟩,
   ⟨base.onChan fun c => { c with carrier := true, rx := .frame, slots := [.filling] }, settled_of _ (by decide),
    by decide⟩,
   ⟨base.onChan fun c => { c with carrier := true, rx := .drain }, settled_of _ (by decide), by decide⟩,
   ⟨base.onChan fun c => { c with
        carrier := true, tx := .sending, rx := .silent, flight := some (.notice .loopOpen 3) },
    settled_of _ (by decide), by decide⟩,
   ⟨99980,
    base.onChan fun c => { c with
        tx := .waiting, stateSlot := some StateFields.atReset, count := 7, quietFrom := some 99980 },
    settled_of _ (by decide), by decide⟩,
   ⟨99990,
    base.onChan fun c => { c with
        tx := .waiting, stateSlot := some StateFields.atReset, count := 2, gapMet := true,
        quietFrom := some 99990 },
    settled_of _ (by decide), by decide⟩⟩

theorem witness_WaitCompletes :
    (∃ (q : Nat) (s : State), Settled s ∧ ChannelOk s ∧ s.chan.quietFrom = some q ∧
      s.chan.tx = .waiting ∧ s.chan.carrier = false ∧ q + 20 ≤ s.now ∧ s.chan.gapMet = false ∧ s.chan.count = 0) ∧
    (∃ (q : Nat) (s : State), Settled s ∧ ChannelOk s ∧ s.chan.quietFrom = some q ∧
      s.chan.tx = .waiting ∧ s.chan.carrier = false ∧ q + 10 ≤ s.now ∧ s.chan.gapMet = true ∧ s.chan.count = 1) :=
  ⟨⟨99980,
    base.onChan fun c => { c with
        tx := .waiting, stateSlot := some StateFields.atReset, count := 0, quietFrom := some 99980 },
    settled_of _ (by decide), channel_of _ rfl (by decide), by decide⟩,
   ⟨99990,
    base.onChan fun c => { c with
        tx := .waiting, stateSlot := some StateFields.atReset, count := 1, gapMet := true,
        quietFrom := some 99990 },
    settled_of _ (by decide), channel_of _ rfl (by decide), by decide⟩⟩

theorem witness_Collision :
    (∃ (k : NoticeKind) (d : Nat) (s : State), Settled s ∧ s.chan.flight = some (.notice k d) ∧
      s.chan.tx = .sending) ∧
    (∃ (c : CallStep) (n i : Nat) (s : State), Settled s ∧ s.chan.flight = some (.call c n i) ∧
      s.chan.tx = .sending) ∧
    (∃ (f : Snapshot) (s : State), Settled s ∧ s.chan.flight = some (.fault f) ∧ s.chan.tx = .sending) ∧
    (∃ (f : StateFields) (s : State), Settled s ∧ s.chan.flight = some (.state f) ∧ s.chan.tx = .sending) ∧
    (∃ (f : Figures) (s : State), Settled s ∧ s.chan.flight = some (.survey f) ∧ s.chan.tx = .sending) :=
  ⟨⟨.loopOpen, 3,
    base.onChan fun c => { c with tx := .sending, rx := .silent, flight := some (.notice .loopOpen 3) },
    settled_of _ (by decide), by decide⟩,
   ⟨.offer, 2, 15,
    base.onChan fun c => { c with tx := .sending, rx := .silent, flight := some (.call .offer 2 15) },
    settled_of _ (by decide), by decide⟩,
   ⟨{ entries := [], more := false },
    base.onChan fun c => { c with
        tx := .sending, rx := .silent, flight := some (.fault { entries := [], more := false }) },
    settled_of _ (by decide), by decide⟩,
   ⟨StateFields.atReset,
    base.onChan fun c => { c with tx := .sending, rx := .silent, flight := some (.state StateFields.atReset) },
    settled_of _ (by decide), by decide⟩,
   ⟨someFigures,
    base.onChan fun c => { c with tx := .sending, rx := .silent, flight := some (.survey someFigures) },
    settled_of _ (by decide), by decide⟩⟩

theorem witness_SendSuccess :
    (∃ (f : Frame) (s : State), Settled s ∧ s.chan.flight = some f ∧ s.chan.tx = .sending ∧
      10 * (8 + f.bodyLength) ≤ 3 * (s.now - s.chan.began) ∧ s.log.hasActive .channelJam s.own none = false) ∧
    (∃ (k : NoticeKind) (d : Nat) (l : Lead) (s : State), Settled s ∧
      s.chan.flight = some (.notice k d) ∧ s.loop.lead = some l ∧ s.chan.tx = .sending ∧
      100 ≤ 3 * (s.now - s.chan.began) ∧ l.stale = false) ∧
    (∃ (k : NoticeKind) (d : Nat) (l : Lead) (s : State), Settled s ∧
      s.chan.flight = some (.notice k d) ∧ s.loop.lead = some l ∧ s.chan.tx = .sending ∧
      100 ≤ 3 * (s.now - s.chan.began) ∧ l.stale = true) ∧
    (∃ (k : NoticeKind) (d : Nat) (l : SurveyLead) (s : State), Settled s ∧
      s.chan.flight = some (.notice k d) ∧ s.survey.lead = some l ∧ s.chan.tx = .sending ∧
      100 ≤ 3 * (s.now - s.chan.began) ∧ l.stale = false) ∧
    (∃ (k : NoticeKind) (d : Nat) (l : SurveyLead) (s : State), Settled s ∧
      s.chan.flight = some (.notice k d) ∧ s.survey.lead = some l ∧ s.chan.tx = .sending ∧
      100 ≤ 3 * (s.now - s.chan.began) ∧ l.stale = true) ∧
    (∃ (f : Frame) (s : State), Settled s ∧ s.chan.flight = some f ∧ s.chan.tx = .sending ∧
      10 * (8 + f.bodyLength) ≤ 3 * (s.now - s.chan.began)) :=
  ⟨⟨.state StateFields.atReset,
    base.onChan fun c => { c with
        tx := .sending, rx := .silent, flight := some (.state StateFields.atReset), began := 99933 },
    settled_of _ (by decide), by decide⟩,
   ⟨.loopOpen, 5, { acts := [.recall], placed := 99900, stale := false, sent := none },
    (base.onLoop fun u => { u with
         lead := some { acts := [.recall], placed := 99900, stale := false, sent := none } })
      |>.onChan fun c => { c with
          tx := .sending, rx := .silent, flight := some (.notice .loopOpen 5), began := 99966 },
    settled_of _ (by decide), by decide⟩,
   ⟨.loopOpen, 5, { acts := [.recall], placed := 99900, stale := true, sent := none },
    (base.onLoop fun u => { u with
         lead := some { acts := [.recall], placed := 99900, stale := true, sent := none } })
      |>.onChan fun c => { c with
          tx := .sending, rx := .silent, flight := some (.notice .loopOpen 5), began := 99966 },
    settled_of _ (by decide), by decide⟩,
   ⟨.surveyLoad, 5, { placed := 99900, stale := false, sent := none },
    (base.onSurvey fun v => { v with
         stage := .notice, dueEnd := none, lead := some { placed := 99900, stale := false, sent := none } })
      |>.onChan fun c => { c with
          tx := .sending, rx := .silent, flight := some (.notice .surveyLoad 5), began := 99966 },
    settled_of _ (by decide), by decide⟩,
   ⟨.surveyLoad, 5, { placed := 99900, stale := true, sent := none },
    (base.onSurvey fun v => { v with
         stage := .notice, dueEnd := none, lead := some { placed := 99900, stale := true, sent := none } })
      |>.onChan fun c => { c with
          tx := .sending, rx := .silent, flight := some (.notice .surveyLoad 5), began := 99966 },
    settled_of _ (by decide), by decide⟩,
   ⟨.notice .loopOpen 5,
    (faulty [record 1 .channelJam .active false none])
      |>.onChan fun c => { c with
          tx := .sending, rx := .silent, flight := some (.notice .loopOpen 5), began := 99966 },
    settled_of _ (by decide), by decide⟩⟩

theorem witness_JamAndClashTimers :
    (∃ (d : Nat) (s : State), s.chan.jamEnd = some d ∧ d ≤ s.now) ∧
    (∃ (d : Nat) (s : State), s.chan.jamEnd = some d ∧ d ≤ s.now ∧ s.log.hasActive .channelJam s.own none = true) ∧
    (∃ (d : Nat) (s : State), s.chan.jamEnd = some d ∧ d ≤ s.now ∧
      s.log.hasActive .channelJam s.own none = false ∧ s.log.records.length < 32) ∧
    (∃ (d : Nat) (s : State), s.chan.jamEnd = some d ∧ d ≤ s.now ∧
      s.log.hasActive .channelJam s.own none = false ∧ s.log.records.length = 32 ∧
      (s.log.records.any fun r => (decide (r.st = .cleared) && r.reported)) = true) ∧
    (∃ (d : Nat) (s : State), s.chan.jamEnd = some d ∧ d ≤ s.now ∧
      s.log.hasActive .channelJam s.own none = false ∧ s.log.records.length = 32 ∧
      (s.log.records.any fun r => (decide (r.st = .cleared) && r.reported)) = false ∧
      (s.log.records.any fun r => decide (r.st = .cleared)) = true) ∧
    (∃ (d : Nat) (s : State), s.chan.jamEnd = some d ∧ d ≤ s.now ∧
      s.log.hasActive .channelJam s.own none = false ∧ s.log.records.length = 32 ∧
      (s.log.records.all fun r => decide (r.st = .active)) = true) ∧
    (∃ (d : Nat) (s : State), s.chan.clashEnd = some d ∧ d ≤ s.now) :=
  ⟨⟨100000, base.onChan fun c => { c with jamEnd := some 100000 }, by decide⟩,
   ⟨100000,
    (base.onLog fun l => { l with seqCounter := 65535, records := [record 1 .channelJam .active true none] })
      |>.onChan fun c => { c with jamEnd := some 100000 },
    by decide⟩,
   ⟨100000,
    (base.onLog fun l => { l with seqCounter := 65535, records := [record 1 .channelJam .cleared true none] })
      |>.onChan fun c => { c with jamEnd := some 100000 },
    by decide⟩,
   ⟨100000,
    (base.onLog fun l => { l with
         seqCounter := 65535,
         records := (List.range 32).map fun k => record (k + 1) .peerSilent .cleared (decide (k = 31)) (some k) })
      |>.onChan fun c => { c with jamEnd := some 100000 },
    by decide⟩,
   ⟨100000,
    (base.onLog fun l => { l with
         seqCounter := 65535,
         records := (List.range 32).map fun k => record (k + 1) .peerSilent .cleared false (some k) })
      |>.onChan fun c => { c with jamEnd := some 100000 },
    by decide⟩,
   ⟨100000,
    (base.onLog fun l => { l with
         seqCounter := 65535,
         records := (List.range 32).map fun k => record (k + 1) .peerSilent .active true (some k) })
      |>.onChan fun c => { c with jamEnd := some 100000 },
    by decide⟩,
   ⟨100000, (faulty [record 1 .numberClash .active true none]).onChan fun c => { c with clashEnd := some 100000 },
    by decide⟩⟩

theorem witness_SyncAndLength :
    (∃ (bits : List Bool) (s : State), Settled s ∧ s.chan.rx = .hunt ∧ bits = [true, true, false, false, true,
      true, false, true, true, false, true, true, false, false, true, false] ∧ s.chan.slots.length < 2) ∧
    (∃ (bits : List Bool) (s : State), Settled s ∧ s.chan.rx = .hunt ∧ bits = [true, true, false, false, true,
      true, false, true, true, false, true, true, false, false, true, false] ∧ 2 ≤ s.chan.slots.length) ∧
    (∃ (bits : List Bool) (s : State), (s.chan.rx ≠ .hunt ∨ bits ≠ [true, true, false, false, true, true,
      false, true, true, false, true, true, false, false, true, false])) ∧
    (∃ (len : Byte) (s : State), Settled s ∧ s.chan.rx = .frame ∧ 32 < len.toNat) :=
  ⟨⟨wireBits syncWord, base.onChan fun c => { c with slots := [.delivered (from2 .notice [2, 3])] },
    settled_of _ (by decide), by decide⟩,
   ⟨wireBits syncWord,
    base.onChan fun c => { c with
        slots := [.delivered (from2 .notice [2, 3]), .delivered (from2 .notice [2, 3])] },
    settled_of _ (by decide), by decide⟩,
   ⟨List.replicate 16 true, base, by decide⟩,
   ⟨33, base.onChan fun c => { c with rx := .frame, slots := [.filling] }, settled_of _ (by decide), by decide⟩⟩

set_option maxRecDepth 4096 in
theorem witness_FrameEnd :
    (∃ (ks : Byte) (body : List Byte) (check : Half) (s : State), Settled s ∧
      s.chan.rx = .frame ∧ s.chan.slots.contains .filling = true ∧ body.length ≤ 32 ∧
      check ≠ frameCheck (ks :: b8 body.length :: body)) ∧
    (∃ (ks : Byte) (body : List Byte) (check : Half) (s : State), Settled s ∧
      s.chan.rx = .frame ∧ s.chan.slots.contains .filling = true ∧ body.length ≤ 32 ∧
      check = frameCheck (ks :: b8 body.length :: body) ∧
      (frameKindOf (ks.toNat / 8)).all (fun k => decide (body.length < k.least)) = true) ∧
    (∃ (ks : Byte) (body : List Byte) (check : Half) (k : FrameKind) (s : State),
      frameKindOf (ks.toNat / 8) = some k ∧ s.chan.rx = .frame ∧ s.chan.slots.contains .filling = true ∧
      body.length ≤ 32 ∧ check = frameCheck (ks :: b8 body.length :: body) ∧ k.least ≤ body.length ∧
      ks.toNat % 8 + 1 = s.own) ∧
    (∃ (ks : Byte) (body : List Byte) (check : Half) (k : FrameKind) (s : State), Settled s ∧
      frameKindOf (ks.toNat / 8) = some k ∧ s.chan.rx = .frame ∧ s.chan.slots.contains .filling = true ∧
      body.length ≤ 32 ∧ check = frameCheck (ks :: b8 body.length :: body) ∧ k.least ≤ body.length ∧
      ks.toNat % 8 + 1 ≠ s.own) :=
  ⟨⟨0x12, [1], 0, base.onChan fun c => { c with rx := .frame, slots := [.filling] }, settled_of _ (by decide),
    by decide⟩,
   ⟨0x12, [1], frameCheck [0x12, 1, 1], base.onChan fun c => { c with rx := .frame, slots := [.filling] },
    settled_of _ (by decide), by decide⟩,
   ⟨0x10, [1, 3], frameCheck [0x10, 2, 1, 3], .notice,
    base.onChan fun c => { c with rx := .frame, slots := [.filling] }, by decide⟩,
   ⟨0x17, [1, 3], frameCheck [0x17, 2, 1, 3], .notice,
    base.onChan fun c => { c with rx := .frame, slots := [.filling] }, settled_of _ (by decide), by decide⟩⟩

theorem witness_FramesUpdateThePeerTable :
    (∃ (f : RxFrame) (rest : List RxSlot) (s : State), s.chan.slots = .delivered f :: rest ∧
      rest.any RxSlot.isProcessing = false ∧ f.kind = .state) ∧
    (∃ (f : RxFrame) (rest : List RxSlot) (s : State), s.chan.slots = .delivered f :: rest ∧
      rest.any RxSlot.isProcessing = false ∧ f.kind = .notice) ∧
    (∃ (f : RxFrame) (rest : List RxSlot) (s : State), s.chan.slots = .delivered f :: rest ∧
      rest.any RxSlot.isProcessing = false ∧ f.kind = .call) ∧
    (∃ (f : RxFrame) (rest : List RxSlot) (s : State), s.chan.slots = .delivered f :: rest ∧
      rest.any RxSlot.isProcessing = false ∧ f.kind = .fault ∧ s.isModem = false) ∧
    (∃ (f : RxFrame) (rest : List RxSlot) (s : State), s.chan.slots = .delivered f :: rest ∧
      rest.any RxSlot.isProcessing = false ∧ f.kind = .fault ∧ s.isModem = true) ∧
    (∃ (f : RxFrame) (rest : List RxSlot) (s : State), s.chan.slots = .delivered f :: rest ∧
      rest.any RxSlot.isProcessing = false ∧ f.kind = .survey ∧ s.isModem = false) ∧
    (∃ (f : RxFrame) (rest : List RxSlot) (s : State), s.chan.slots = .delivered f :: rest ∧
      rest.any RxSlot.isProcessing = false ∧ f.kind = .survey ∧ s.isModem = true) :=
  ⟨⟨(from2 .state StateFields.atReset.bytes), [], hears (from2 .state StateFields.atReset.bytes) base, by decide⟩,
   ⟨(from2 .notice [1, 51]), [], hears (from2 .notice [1, 51]) base, by decide⟩,
   ⟨(from2 .call [1, 1, 15]), [], hears (from2 .call [1, 1, 15]) base, by decide⟩,
   ⟨(from2 .fault [0]), [], hears (from2 .fault [0]) (noModem), by decide⟩,
   ⟨(from2 .fault [0]), [], hears (from2 .fault [0]) base, by decide⟩,
   ⟨(from2 .survey someFigures.bytes), [], hears (from2 .survey someFigures.bytes) (noModem), by decide⟩,
   ⟨(from2 .survey someFigures.bytes), [], hears (from2 .survey someFigures.bytes) base, by decide⟩⟩

set_option maxRecDepth 4096 in
theorem witness_MirroredFaults :
    (∃ (f : RxFrame) (rest : List RxSlot) (s : State), s.chan.slots = .delivered f :: rest ∧
      rest.any RxSlot.isProcessing = false ∧ f.kind = .fault ∧ s.isModem = true ∧
      s.log.records.length + 7 ≤ 32 ∧ f.sender ≠ s.own ∧ u8 f.body 0 < 128) ∧
    (∃ (f : RxFrame) (rest : List RxSlot) (s : State), s.chan.slots = .delivered f :: rest ∧
      rest.any RxSlot.isProcessing = false ∧ f.kind = .fault ∧ s.isModem = true ∧
      s.log.records.length + 7 ≤ 32 ∧ f.sender ≠ s.own ∧ 128 ≤ u8 f.body 0) ∧
    (∃ (f : RxFrame) (rest : List RxSlot) (c : FaultClass) (x : FaultEntry) (s : State),
      s.chan.slots = .delivered f :: rest ∧ (readSnapshot f.body).entries.filterMap FaultEntry.judge = [(c,
      x)] ∧ rest.any RxSlot.isProcessing = false ∧ f.kind = .fault ∧ s.isModem = true ∧ f.sender ≠ s.own ∧
      (s.peer f.sender).any (fun e => e.present) = true ∧ 128 ≤ u8 f.body 0 ∧
      s.log.records.length < 32 ∧ s.log.hasActive c f.sender x.qual = false) ∧
    (∃ (f : RxFrame) (rest : List RxSlot) (c : FaultClass) (x : FaultEntry) (s : State),
      s.chan.slots = .delivered f :: rest ∧ (readSnapshot f.body).entries.filterMap FaultEntry.judge = [(c,
      x)] ∧ rest.any RxSlot.isProcessing = false ∧ f.kind = .fault ∧ s.isModem = true ∧ f.sender ≠ s.own ∧
      (s.peer f.sender).any (fun e => e.present) = true ∧ 128 ≤ u8 f.body 0 ∧
      s.log.hasActive c f.sender x.qual = true) ∧
    (∃ (f : RxFrame) (rest : List RxSlot) (s : State), s.chan.slots = .delivered f :: rest ∧
      (readSnapshot f.body).entries.filterMap FaultEntry.judge = [] ∧ rest.any RxSlot.isProcessing = false ∧
      f.kind = .fault ∧ s.isModem = true ∧ f.sender ≠ s.own ∧ (s.peer f.sender).any (fun e => e.present) = true ∧
      u8 f.body 0 < 128) :=
  ⟨⟨(from2 .fault [1, 4, 0, 1, 0, 200]), [], hears (from2 .fault [1, 4, 0, 1, 0, 200]) base, by decide⟩,
   ⟨(from2 .fault [0x86, 4, 0, 1, 0, 200]), [], hears (from2 .fault [0x86, 4, 0, 1, 0, 200]) base, by decide⟩,
   ⟨(from2 .fault [0x81, 2, 0, 0, 0x27, 0x10]), [], .loopHigh,
    { cls := 2, qual := none, count := 1, value := some 9999 },
    hears (from2 .fault [0x81, 2, 0, 0, 0x27, 0x10]) (base.onPeers fun _ => [Peer.create 2 90000]), by decide⟩,
   ⟨(from2 .fault [0x81, 4, 9, 255, 0xFF, 0xFF]), [], .earth,
    { cls := 4, qual := none, count := 255, value := none },
    hears (from2 .fault [0x81, 4, 9, 255, 0xFF, 0xFF]) (
      (faulty [mirrored 1 .earth 200]).onPeers fun _ => [Peer.create 2 90000]),
    by decide⟩,
   ⟨(from2 .fault [1, 9, 3, 1, 0, 0]), [],
    hears (from2 .fault [1, 9, 3, 1, 0, 0]) (
      (faulty [mirrored 1 .earth 200]).onPeers fun _ => [Peer.create 2 90000]),
    by decide⟩⟩

theorem witness_PeerAgeing :
    (∃ (n : Nat) (e : Peer) (d : Nat) (s : State), s.peer n = some e ∧ e.silenceEnd = some d ∧ e.present = true ∧
      d ≤ s.now) ∧
    (∃ (n : Nat) (e : Peer) (d : Nat) (s : State), s.peer n = some e ∧ e.removalEnd = some d ∧ e.present = false ∧
      d ≤ s.now) :=
  ⟨⟨2, Peer.create 2 60000, 100000, base.onPeers fun _ => [Peer.create 2 60000], by decide⟩,
   ⟨8, (Peer.create 8 0).silence 0, 600000,
    (base.onTime fun u => { u with uptime := 600000 }).onPeers fun _ => [(Peer.create 8 0).silence 0], by decide⟩⟩

theorem witness_AnnounceTimer :
    ∃ (d : Nat) (s : State), s.announce.timerEnd = some d ∧ d ≤ s.now :=
  ⟨100000, base.onAnnounce fun _ => { timerEnd := some 100000, count := 9 }, by decide⟩

theorem witness_LineSamples :
    (∃ (_v : Code) (s : State), Settled s ∧ (s.ring.burst ≠ .quiet ∨
      s.survey.stage = .load ∨ s.loop.recallState.breaking = true)) ∧
    (∃ (v : Code) (s : State), Settled s ∧ LineOk s ∧ s.ring.burst = .quiet ∧
      s.survey.stage ≠ .load ∧ s.loop.recallState.breaking = false ∧ 800 ≤ v.toNat ∧ s.line.goodRun ≠ 39 ∧
      ¬ (s.line.st = .inUse ∧ 2 ≤ s.line.drop ∧ s.line.drop ≤ 20)) ∧
    (∃ (v : Code) (s : State), Settled s ∧ LineOk s ∧ s.ring.burst = .quiet ∧
      s.survey.stage ≠ .load ∧ s.loop.recallState.breaking = false ∧ 64 ≤ v.toNat ∧ v.toNat < 800 ∧
      s.line.goodRun ≠ 39 ∧ ¬ (s.line.st = .inUse ∧ 2 ≤ s.line.drop ∧ s.line.drop ≤ 20) ∧ s.line.st = .inUse) ∧
    (∃ (v : Code) (s : State), Settled s ∧ LineOk s ∧ s.ring.burst = .quiet ∧
      s.survey.stage ≠ .load ∧ s.loop.recallState.breaking = false ∧ 64 ≤ v.toNat ∧ v.toNat < 800 ∧
      s.line.goodRun ≠ 39 ∧ s.line.st ≠ .inUse ∧ s.line.useRun < 2) ∧
    (∃ (v : Code) (s : State), LineOk s ∧ s.ring.burst = .quiet ∧
      s.survey.stage ≠ .load ∧ s.loop.recallState.breaking = false ∧ 64 ≤ v.toNat ∧ s.line.goodRun = 39 ∧
      ¬ (s.line.st = .inUse ∧ 2 ≤ s.line.drop ∧ s.line.drop ≤ 20) ∧ (800 ≤ v.toNat ∨
      s.line.st = .inUse ∨ s.line.useRun < 2)) ∧
    (∃ (v : Code) (s : State), LineOk s ∧ s.ring.burst = .quiet ∧
      s.survey.stage ≠ .load ∧ s.loop.recallState.breaking = false ∧ 64 ≤ v.toNat ∧ v.toNat < 800 ∧
      s.line.st ≠ .inUse ∧ s.line.useRun = 2) ∧
    (∃ (v : Code) (s : State), Settled s ∧ LineOk s ∧ s.ring.burst = .quiet ∧
      s.survey.stage ≠ .load ∧ s.loop.recallState.breaking = false ∧ v.toNat < 64 ∧
      s.line.st ≠ .dead ∧ s.line.lowRun < 39) ∧
    (∃ (v : Code) (s : State), Settled s ∧ LineOk s ∧ s.ring.burst = .quiet ∧
      s.survey.stage ≠ .load ∧ s.loop.recallState.breaking = false ∧ v.toNat < 64 ∧ s.line.st = .dead) ∧
    (∃ (v : Code) (s : State), LineOk s ∧ s.ring.burst = .quiet ∧
      s.survey.stage ≠ .load ∧ s.loop.recallState.breaking = false ∧ v.toNat < 64 ∧
      s.line.st ≠ .dead ∧ s.line.lowRun = 39) ∧
    (∃ (v : Code) (s : State), LineOk s ∧ s.ring.burst = .quiet ∧
      s.survey.stage ≠ .load ∧ s.loop.recallState.breaking = false ∧ 64 ≤ v.toNat ∧ s.line.st = .inUse ∧
      2 ≤ s.line.drop ∧ s.line.drop ≤ 20) :=
  ⟨⟨0, base.onRing fun r => { r with burst := .starting }, settled_of _ (by decide), by decide⟩,
   ⟨800, base.onLine fun m => { m with goodRun := 40 }, settled_of _ (by decide), line_of _ (by decide),
    by decide⟩,
   ⟨799, base.onLine fun m => { m with st := .inUse, useRun := 3, lowRun := 21, goodRun := 40, drop := 21 },
    settled_of _ (by decide), line_of _ (by decide), by decide⟩,
   ⟨64, base.onLine fun m => { m with useRun := 1, goodRun := 38 }, settled_of _ (by decide),
    line_of _ (by decide), by decide⟩,
   ⟨799, base.onLine fun m => { m with st := .inUse, useRun := 3, lowRun := 21, goodRun := 39, drop := 21 },
    line_of _ (by decide), by decide⟩,
   ⟨64, base.onLine fun m => { m with useRun := 2, goodRun := 39 }, line_of _ (by decide), by decide⟩,
   ⟨63, base.onLine fun m => { m with st := .inUse, useRun := 3, goodRun := 40, lowRun := 38, drop := 38 },
    settled_of _ (by decide), line_of _ (by decide), by decide⟩,
   ⟨63, base.onLine fun m => { m with st := .dead, lowRun := 40 }, settled_of _ (by decide),
    line_of _ (by decide), by decide⟩,
   ⟨63, base.onLine fun m => { m with st := .inUse, useRun := 3, lowRun := 39, drop := 39 },
    line_of _ (by decide), by decide⟩,
   ⟨64, base.onLine fun m => { m with st := .inUse, useRun := 3, goodRun := 40, drop := 20, lowRun := 20 },
    line_of _ (by decide), by decide⟩⟩

theorem witness_LeadEnd :
    (∃ (l : Lead) (s : State), LoopOk s ∧ s.loop.lead = some l ∧
      min (l.placed + 400) ((l.sent.map (· + 100)).getD (l.placed + 400)) ≤ s.now) ∧
    (∃ (l : Lead) (r : Incoming) (p : PortId) (s : State), LoopOk s ∧ s.loop.lead = some l ∧
      s.loop.incoming = some r ∧ r.taking = some p ∧ min (l.placed + 400) ((l.sent.map (· + 100)).getD (l.placed +
      400)) ≤ s.now ∧ .handover ∈ l.acts) ∧
    (∃ (e : Nat) (s : State), s.loop.recallState = .brk e ∧ e ≤ s.now ∧ s.loop.loop = .closed ∧
      s.someConnected = true) ∧
    (∃ (e : Nat) (s : State), s.loop.recallState = .brk e ∧ e ≤ s.now ∧ s.loop.loop = .closed ∧
      s.someConnected = false ∧ s.loop.park = none) :=
  ⟨⟨{ acts := [.loopOpen], placed := 99900, stale := false, sent := some 99900 },
    base.onLoop fun u => { u with
        loop := .closed,
        lead := some { acts := [.loopOpen], placed := 99900, stale := false, sent := some 99900 } },
    loop_of _ rfl rfl (by decide), by decide⟩,
   ⟨{ acts := [.handover], placed := 99600, stale := false, sent := none },
    { parker := 2, parkId := 15, taking := some .one, expiry := 90000 }, .one,
    (onOne (off .connected))
      |>.onLoop fun u => { u with
          lead := some { acts := [.handover], placed := 99600, stale := false, sent := none },
          incoming := some { parker := 2, parkId := 15, taking := some .one, expiry := 90000 } },
    loopTaking_of _ rfl rfl rfl (by decide), by decide⟩,
   ⟨100000, (onOne (off .connected)).onLoop fun u => { u with loop := .closed, recallState := .brk 100000 },
    by decide⟩,
   ⟨100000, base.onLoop fun u => { u with loop := .closed, recallState := .brk 100000 }, by decide⟩⟩

theorem witness_TransferFrames :
    (∃ (f : RxFrame) (rest : List RxSlot) (n k : Nat) (s : State), s.chan.slots = .delivered f :: rest ∧
      readCall f.body = some (.offer, n, k) ∧ rest.any RxSlot.isProcessing = false ∧ f.kind = .call ∧
      (n ≠ s.own ∨ s.loop.incoming.isSome = true ∨ s.loop.loop = .hold ∨
      (s.loop.took.any fun x => decide (x.parker = f.sender ∧ x.parkId = k)) = true)) ∧
    (∃ (f : RxFrame) (rest : List RxSlot) (n k : Nat) (s : State), s.chan.slots = .delivered f :: rest ∧
      readCall f.body = some (.offer, n, k) ∧ rest.any RxSlot.isProcessing = false ∧ f.kind = .call ∧
      n = s.own ∧ s.loop.incoming = none ∧ s.loop.loop ≠ .hold ∧
      ((s.loop.took.any fun x => decide (x.parker = f.sender ∧ x.parkId = k)) = false)) ∧
    (∃ (f : RxFrame) (rest : List RxSlot) (n k : Nat) (r : Incoming) (s : State),
      s.chan.slots = .delivered f :: rest ∧ readCall f.body = some (.withdrawn, n, k) ∧
      s.loop.incoming = some r ∧ rest.any RxSlot.isProcessing = false ∧ f.kind = .call ∧ n = s.own ∧
      r.taking = none ∧ r.parker = f.sender ∧ r.parkId = k) ∧
    (∃ (f : RxFrame) (rest : List RxSlot) (n k : Nat) (s : State), s.chan.slots = .delivered f :: rest ∧
      readCall f.body = some (.withdrawn, n, k) ∧ rest.any RxSlot.isProcessing = false ∧ f.kind = .call ∧
      (n ≠ s.own ∨ s.loop.incoming.any (fun r => decide (r.taking = none ∧ r.parker = f.sender ∧
      r.parkId = k)) = false)) ∧
    (∃ (f : RxFrame) (rest : List RxSlot) (n i : Nat) (k : Park) (s : State),
      s.chan.slots = .delivered f :: rest ∧ readCall f.body = some (.taken, n, i) ∧ s.loop.park = some k ∧
      rest.any RxSlot.isProcessing = false ∧ f.kind = .call ∧ n = s.own ∧ k.target = f.sender ∧ k.parkId = i) ∧
    (∃ (f : RxFrame) (rest : List RxSlot) (n k : Nat) (s : State), s.chan.slots = .delivered f :: rest ∧
      readCall f.body = some (.taken, n, k) ∧ rest.any RxSlot.isProcessing = false ∧ f.kind = .call ∧
      (n ≠ s.own ∨ s.loop.park.any (fun x => decide (x.target = f.sender ∧ x.parkId = k)) = false)) ∧
    (∃ (f : RxFrame) (rest : List RxSlot) (s : State), s.chan.slots = .delivered f :: rest ∧
      readCall f.body = none ∧ rest.any RxSlot.isProcessing = false ∧ f.kind = .call) ∧
    (∃ (f : RxFrame) (rest : List RxSlot) (n k : Nat) (s : State), s.chan.slots = .delivered f :: rest ∧
      (readState f.body).offer = some (n, k) ∧ rest.any RxSlot.isProcessing = false ∧ f.kind = .state ∧
      n = s.own ∧ (((readState f.body).took.any fun y => decide (y.1 = s.own) && s.loop.park.any fun x => decide
      (x.target = f.sender ∧ x.parkId = y.2)) = false) ∧ s.loop.incoming = none ∧
      s.loop.loop ≠ .hold ∧ ((s.loop.took.any fun x => decide (x.parker = f.sender ∧ x.parkId = k)) = false)) ∧
    (∃ (f : RxFrame) (rest : List RxSlot) (n k : Nat) (s : State), s.chan.slots = .delivered f :: rest ∧
      (readState f.body).offer = some (n, k) ∧ rest.any RxSlot.isProcessing = false ∧ f.kind = .state ∧
      (((readState f.body).took.any fun y => decide (y.1 = s.own) && s.loop.park.any fun x => decide (x.target =
      f.sender ∧ x.parkId = y.2)) = false) ∧ (n ≠ s.own ∨ s.loop.incoming.isSome = true ∨
      s.loop.loop = .hold ∨ (s.loop.took.any fun x => decide (x.parker = f.sender ∧
      x.parkId = k)) = true) ∧ ((s.loop.incoming.any fun r => decide (r.taking = none ∧
      r.parker = f.sender ∧ (readState f.body).offer ≠ some (s.own, r.parkId))) = false)) ∧
    (∃ (f : RxFrame) (rest : List RxSlot) (n k : Nat) (r : Incoming) (s : State),
      s.chan.slots = .delivered f :: rest ∧ (readState f.body).offer = some (n, k) ∧
      s.loop.incoming = some r ∧ rest.any RxSlot.isProcessing = false ∧ f.kind = .state ∧
      (((readState f.body).took.any fun y => decide (y.1 = s.own) && s.loop.park.any fun x => decide (x.target =
      f.sender ∧ x.parkId = y.2)) = false) ∧ r.taking = none ∧ r.parker = f.sender ∧ (n ≠ s.own ∨
      (k ≠ r.parkId ∧ (s.loop.loop = .hold ∨ (s.loop.took.any fun x => decide (x.parker = f.sender ∧
      x.parkId = k)) = true)))) ∧
    (∃ (f : RxFrame) (rest : List RxSlot) (n k : Nat) (r : Incoming) (s : State),
      s.chan.slots = .delivered f :: rest ∧ (readState f.body).offer = some (n, k) ∧
      s.loop.incoming = some r ∧ rest.any RxSlot.isProcessing = false ∧ f.kind = .state ∧
      (((readState f.body).took.any fun y => decide (y.1 = s.own) && s.loop.park.any fun x => decide (x.target =
      f.sender ∧ x.parkId = y.2)) = false) ∧ r.taking = none ∧ r.parker = f.sender ∧ n = s.own ∧
      k ≠ r.parkId ∧ s.loop.loop ≠ .hold ∧ ((s.loop.took.any fun x => decide (x.parker = f.sender ∧
      x.parkId = k)) = false)) ∧
    (∃ (f : RxFrame) (rest : List RxSlot) (r : Incoming) (s : State),
      s.chan.slots = .delivered f :: rest ∧ s.loop.incoming = some r ∧ rest.any RxSlot.isProcessing = false ∧
      f.kind = .state ∧ (readState f.body).offer = none ∧
      (((readState f.body).took.any fun y => decide (y.1 = s.own) && s.loop.park.any fun x => decide (x.target =
      f.sender ∧ x.parkId = y.2)) = false) ∧ r.taking = none ∧ r.parker = f.sender) ∧
    (∃ (f : RxFrame) (rest : List RxSlot) (s : State), s.chan.slots = .delivered f :: rest ∧
      rest.any RxSlot.isProcessing = false ∧ f.kind = .state ∧ (readState f.body).offer = none ∧
      (((readState f.body).took.any fun y => decide (y.1 = s.own) && s.loop.park.any fun x => decide (x.target =
      f.sender ∧ x.parkId = y.2)) = false) ∧ ((s.loop.incoming.any fun r => decide (r.taking = none ∧
      r.parker = f.sender ∧ (readState f.body).offer ≠ some (s.own, r.parkId))) = false)) ∧
    (∃ (f : RxFrame) (rest : List RxSlot) (n i : Nat) (k : Park) (s : State),
      s.chan.slots = .delivered f :: rest ∧ (readState f.body).took = some (n, i) ∧ s.loop.park = some k ∧
      rest.any RxSlot.isProcessing = false ∧ f.kind = .state ∧ n = s.own ∧ k.target = f.sender ∧ k.parkId = i) :=
  ⟨⟨(from2 .call [1, 8, 15]), [], 8, 15, hears (from2 .call [1, 8, 15]) base, by decide⟩,
   ⟨(from2 .call [1, 1, 15]), [], 1, 15, hears (from2 .call [1, 1, 15]) base, by decide⟩,
   ⟨(from2 .call [2, 1, 15]), [], 1, 15, { parker := 2, parkId := 15, taking := none, expiry := 100000 },
    hears (from2 .call [2, 1, 15]) (
      base.onLoop fun u => { u with
          incoming := some { parker := 2, parkId := 15, taking := none, expiry := 100000 } }),
    by decide⟩,
   ⟨(from2 .call [2, 1, 14]), [], 1, 14,
    hears (from2 .call [2, 1, 14]) (
      base.onLoop fun u => { u with
          incoming := some { parker := 2, parkId := 15, taking := none, expiry := 100000 } }),
    by decide⟩,
   ⟨(from2 .call [3, 1, 15]), [], 1, 15,
    { target := 2, parkId := 15, port := .one, start := 60000, phase := .recalling, expiry := some 100000 },
    hears (from2 .call [3, 1, 15]) (
      base.onLoop fun u => { u with
          loop := .hold,
          park := some {
            target := 2, parkId := 15, port := .one, start := 60000, phase := .recalling,
            expiry := some 100000 } }),
    by decide⟩,
   ⟨(from2 .call [3, 1, 1]), [], 1, 1,
    hears (from2 .call [3, 1, 1]) (
      base.onLoop fun u => { u with
          loop := .hold,
          park := some {
            target := 2, parkId := 15, port := .one, start := 60000, phase := .recalling,
            expiry := some 100000 } }),
    by decide⟩,
   ⟨(from2 .call [4, 1, 15]), [], hears (from2 .call [4, 1, 15]) base, by decide⟩,
   ⟨(from2 .state (stateBody (some (1, 15)) none none)), [], 1, 15,
    hears (from2 .state (stateBody (some (1, 15)) none none)) (
      base.onLoop fun u => { u with took := some { parker := 2, parkId := 14, expiry := 100000 } }),
    by decide⟩,
   ⟨(from2 .state (stateBody (some (1, 15)) none none)), [], 1, 15,
    hears (from2 .state (stateBody (some (1, 15)) none none)) (
      base.onLoop fun u => { u with
          incoming := some { parker := 2, parkId := 15, taking := none, expiry := 100000 } }),
    by decide⟩,
   ⟨(from2 .state (stateBody (some (8, 15)) none none)), [], 8, 15,
    { parker := 2, parkId := 15, taking := none, expiry := 100000 },
    hears (from2 .state (stateBody (some (8, 15)) none none)) (
      base.onLoop fun u => { u with
          incoming := some { parker := 2, parkId := 15, taking := none, expiry := 100000 } }),
    by decide⟩,
   ⟨(from2 .state (stateBody (some (1, 1)) none none)), [], 1, 1,
    { parker := 2, parkId := 15, taking := none, expiry := 100000 },
    hears (from2 .state (stateBody (some (1, 1)) none none)) (
      (onOne (ringing .transfer))
        |>.onLoop fun u => { u with
            incoming := some { parker := 2, parkId := 15, taking := none, expiry := 100000 },
            took := some { parker := 2, parkId := 15, expiry := 100000 } }),
    by decide⟩,
   ⟨(from2 .state StateFields.atReset.bytes), [], { parker := 2, parkId := 15, taking := none, expiry := 100000 },
    hears (from2 .state StateFields.atReset.bytes) (
      base.onLoop fun u => { u with
          incoming := some { parker := 2, parkId := 15, taking := none, expiry := 100000 } }),
    by decide⟩,
   ⟨(from2 .state StateFields.atReset.bytes), [],
    hears (from2 .state StateFields.atReset.bytes) (
      (onOne (off .connected))
        |>.onLoop fun u => { u with
            incoming := some { parker := 2, parkId := 15, taking := some .one, expiry := 100000 },
            took := some { parker := 2, parkId := 15, expiry := 100000 } }),
    by decide⟩,
   ⟨(from2 .state (stateBody (some (1, 1)) (some (1, 15)) none)), [], 1, 15,
    { target := 2, parkId := 15, port := .one, start := 60000, phase := .offered, expiry := some 100000 },
    hears (from2 .state (stateBody (some (1, 1)) (some (1, 15)) none)) (
      base.onLoop fun u => { u with
          loop := .hold,
          park := some {
            target := 2, parkId := 15, port := .one, start := 60000, phase := .offered, expiry := some 100000 } }),
    by decide⟩⟩

theorem witness_TransferExpiries :
    (∃ (k : Park) (e : Nat) (s : State), s.loop.park = some k ∧ k.expiry = some e ∧ k.phase = .offered ∧
      e ≤ s.now ∧ (s.port k.port).st = .refused) ∧
    (∃ (k : Park) (e : Nat) (s : State), s.loop.park = some k ∧ k.expiry = some e ∧ k.phase = .offered ∧
      e ≤ s.now ∧ (s.port k.port).st ≠ .refused ∧ (s.port k.port).st ≠ .absent) ∧
    (∃ (k : Park) (e : Nat) (s : State), s.loop.park = some k ∧ k.expiry = some e ∧ k.phase = .recalling ∧
      e ≤ s.now) ∧
    (∃ (r : Incoming) (s : State), s.loop.incoming = some r ∧ r.taking = none ∧ r.expiry ≤ s.now) ∧
    (∃ (x : Took) (s : State), s.loop.took = some x ∧ x.expiry ≤ s.now) :=
  ⟨⟨{ target := 2, parkId := 15, port := .one, start := 60000, phase := .offered, expiry := some 100000 }, 100000,
    (onOne (off .refused))
      |>.onLoop fun u => { u with
          loop := .hold,
          park := some {
            target := 2, parkId := 15, port := .one, start := 60000, phase := .offered, expiry := some 100000 } },
    by decide⟩,
   ⟨{ target := 2, parkId := 15, port := .one, start := 60000, phase := .offered, expiry := some 100000 }, 100000,
    base.onLoop fun u => { u with
        loop := .hold,
        park := some {
          target := 2, parkId := 15, port := .one, start := 60000, phase := .offered, expiry := some 100000 } },
    by decide⟩,
   ⟨{ target := 2, parkId := 15, port := .one, start := 60000, phase := .recalling, expiry := some 100000 },
    100000,
    (onOne (ringing .recall))
      |>.onLoop fun u => { u with
          loop := .hold,
          park := some {
            target := 2, parkId := 15, port := .one, start := 60000, phase := .recalling,
            expiry := some 100000 } },
    by decide⟩,
   ⟨{ parker := 2, parkId := 15, taking := none, expiry := 100000 },
    base.onLoop fun u => { u with
        incoming := some { parker := 2, parkId := 15, taking := none, expiry := 100000 } },
    by decide⟩,
   ⟨{ parker := 2, parkId := 15, expiry := 100000 },
    base.onLoop fun u => { u with took := some { parker := 2, parkId := 15, expiry := 100000 } }, by decide⟩⟩

theorem witness_ClockAdvanceAndAdoption :
    (∃ (s : State), Settled s ∧ s.time.secTaken < s.time.uptime / 1000 ∧ s.time.clock = none) ∧
    (∃ (c : DayClock) (s : State), ClockOk s ∧ s.time.clock = some c ∧ s.time.secTaken < s.time.uptime / 1000) ∧
    (∃ (f : RxFrame) (rest : List RxSlot) (k : CarriedClock) (s : State),
      s.chan.slots = .delivered f :: rest ∧ (readState f.body).clock = some k ∧
      rest.any RxSlot.isProcessing = false ∧ f.kind = .state ∧ ¬ (1 ≤ k.month ∧ k.month ≤ 12 ∧ 1 ≤ k.day ∧
      k.day ≤ [31, 29, 31, 30, 31, 30, 31, 31, 30, 31, 30, 31].getD (k.month - 1) 0 ∧ k.hour ≤ 23 ∧
      k.minute ≤ 59 ∧ (k.quality = 1 ∨ k.quality = 2)) ∨
      (s.time.clock.any fun c => decide (c.quality = .caller)) = true) ∧
    (∃ (f : RxFrame) (rest : List RxSlot) (k : CarriedClock) (s : State),
      s.chan.slots = .delivered f :: rest ∧ (readState f.body).clock = some k ∧
      rest.any RxSlot.isProcessing = false ∧ f.kind = .state ∧ ((1 ≤ k.month ∧ k.month ≤ 12 ∧ 1 ≤ k.day ∧
      k.day ≤ [31, 29, 31, 30, 31, 30, 31, 31, 30, 31, 30, 31].getD (k.month - 1) 0 ∧ k.hour ≤ 23 ∧
      k.minute ≤ 59 ∧ (k.quality = 1 ∨ k.quality = 2))) ∧ s.time.clock = none) ∧
    (∃ (f : RxFrame) (rest : List RxSlot) (k : CarriedClock) (c : DayClock) (s : State),
      s.chan.slots = .delivered f :: rest ∧ (readState f.body).clock = some k ∧ s.time.clock = some c ∧
      rest.any RxSlot.isProcessing = false ∧ f.kind = .state ∧ ((1 ≤ k.month ∧ k.month ≤ 12 ∧ 1 ≤ k.day ∧
      k.day ≤ [31, 29, 31, 30, 31, 30, 31, 31, 30, 31, 30, 31].getD (k.month - 1) 0 ∧ k.hour ≤ 23 ∧
      k.minute ≤ 59 ∧ (k.quality = 1 ∨ k.quality = 2))) ∧ c.quality = .peer) :=
  ⟨⟨base.onTime fun u => { u with clock := none, secTaken := 99 }, settled_of _ (by decide), by decide⟩,
   ⟨{ quality := .caller, month := 12, day := 31, hour := 23, minute := 59, second := 59 },
    base.onTime fun u => { u with
        clock := some { quality := .caller, month := 12, day := 31, hour := 23, minute := 59, second := 59 },
        secTaken := 99 },
    clock_of _ _ rfl (by decide), by decide⟩,
   ⟨(from2 .state (stateBody none none (some { quality := 2, month := 2, day := 30, hour := 2, minute := 0 }))),
    [], { quality := 2, month := 2, day := 30, hour := 2, minute := 0 },
    hears (
      from2 .state (stateBody none none (some { quality := 2, month := 2, day := 30, hour := 2, minute := 0 }))) base,
    by decide⟩,
   ⟨(from2 .state (stateBody none none (some { quality := 2, month := 2, day := 29, hour := 2, minute := 0 }))),
    [], { quality := 2, month := 2, day := 29, hour := 2, minute := 0 },
    hears (
      from2 .state (stateBody none none (some { quality := 2, month := 2, day := 29, hour := 2, minute := 0 }))) base,
    by decide⟩,
   ⟨(from2 .state (stateBody none none (some { quality := 1, month := 2, day := 29, hour := 2, minute := 0 }))),
    [], { quality := 1, month := 2, day := 29, hour := 2, minute := 0 },
    { quality := .peer, month := 12, day := 31, hour := 23, minute := 59, second := 59 },
    hears (from2 .state (stateBody none none (some { quality := 1, month := 2, day := 29, hour := 2, minute := 0 }))) (
      base.onTime fun u => { u with
          clock := some { quality := .peer, month := 12, day := 31, hour := 23, minute := 59, second := 59 },
          secTaken := 100 }),
    by decide⟩⟩

theorem witness_CommandTakeAndDeadline :
    (∃ (x : CommandSlot) (s : State), s.modem.slot = some x ∧ s.isModem = true ∧ x.cmd.isTrain = true) ∧
    (∃ (x : CommandSlot) (s : State), s.modem.slot = some x ∧ s.isModem = true ∧ (x.cmd = .drop ∨
      x.cmd.isBrace = true)) ∧
    (∃ (x : CommandSlot) (s : State), s.modem.slot = some x ∧ s.isModem = true ∧
      x.cmd.isRespond = true ∧ s.resp.outstanding.any (fun o => decide (o.code = 6)) = false) ∧
    (∃ (x : CommandSlot) (s : State), s.modem.slot = some x ∧ s.isModem = true ∧ x.deadline ≤ s.now) :=
  ⟨⟨{ cmd := .train 4, waiting := true, deadline := 100000 },
    (inRole .training)
      |>.onModem fun m => { m with slot := some { cmd := .train 4, waiting := true, deadline := 100000 } },
    by decide⟩,
   ⟨{ cmd := .unbrace, waiting := true, deadline := 100000 },
    base.onModem fun m => { m with
        slot := some { cmd := .unbrace, waiting := true, deadline := 100000 }, queue := [.drop] },
    by decide⟩,
   ⟨{ cmd := .respond [1, 7, 0], waiting := true, deadline := 100000 },
    base.onModem fun m => { m with
        slot := some { cmd := .respond [1, 7, 0], waiting := true, deadline := 100000 } },
    by decide⟩,
   ⟨{ cmd := .train 4, waiting := true, deadline := 100000 },
    (inRole .training)
      |>.onModem fun m => { m with slot := some { cmd := .train 4, waiting := true, deadline := 100000 } },
    by decide⟩⟩

theorem witness_ModemReports :
    (∃ (k _l : Byte) (_m : Half) (s : State), s.isModem = true ∧ s.hold.role = .training ∧
      s.hold.underWay = true ∧ k.toNat = 2) ∧
    (∃ (k _l : Byte) (_m : Half) (s : State), s.isModem = true ∧ s.hold.role = .training ∧
      s.hold.underWay = true ∧ linkOf k.toNat = .down) ∧
    (∃ (k _l : Byte) (_m : Half) (s : State), s.isModem = true ∧ s.hold.role = .holding ∧ linkOf k.toNat ≠ .up) ∧
    (∃ (s : State), s.isModem = true ∧ s.hold.role = .holding ∧ s.modem.link = .up) ∧
    (∃ (k _l : Byte) (_m : Half) (s : State), s.isModem = true ∧ s.hold.role = .holding ∧ k.toNat = 2 ∧
      s.hold.watch = none ∧ s.hold.nightMark = true) ∧
    (∃ (k _l : Byte) (m : Half) (s : State), s.isModem = true ∧ s.hold.role = .holding ∧
      k.toNat = 2 ∧ s.hold.watch.all (fun _ => decide (30 ≤ (((s.hold.s16.map fun x => ((x : Int) + ((16 * min 400
      m.toNat : Int) - x).tdiv 8).toNat).getD (16 * min 400 m.toNat)) + 8) / 16)) = true ∧
      (s.hold.window ≠ none ∨ s.profile.maxLevel ≤ s.hold.level ∨
      s.hold.upSince.all (fun u => decide (s.now < u + 21600000)) = true ∨
      (((s.hold.s16.map fun x => ((x : Int) + ((16 * min 400 m.toNat : Int) - x).tdiv 8).toNat).getD (16 * min 400
      m.toNat)) + 8) / 16 < 90 ∨ s.time.clock.all (fun c => decide (c.hour ≠ 2 ∧
      c.hour ≠ 3)) = true ∨ s.hold.nightMark = true ∨
      s.profile.retrainBudget ≤ s.hold.history.length + 1 ∨ s.port1.st = .connected ∨ s.port1.st = .loc ∨
      s.port2.st = .connected ∨ s.port2.st = .loc ∨ s.peerInUse = true ∨ s.survey.stage.measuring = true)) ∧
    (∃ (k _l : Byte) (m : Half) (w : StepWatch) (s : State), s.hold.watch = some w ∧ s.isModem = true ∧
      s.hold.role = .holding ∧ k.toNat = 2 ∧ (((s.hold.s16.map fun x => ((x : Int) + ((16 * min 400 m.toNat : Int) -
      x).tdiv 8).toNat).getD (16 * min 400 m.toNat)) + 8) / 16 < 30) ∧
    (∃ (k _l : Byte) (m : Half) (c : DayClock) (u : Nat) (s : State), s.time.clock = some c ∧
      s.hold.upSince = some u ∧ s.isModem = true ∧ s.hold.role = .holding ∧ k.toNat = 2 ∧
      s.hold.watch = none ∧ s.hold.window = none ∧ s.hold.level < s.profile.maxLevel ∧ u + 21600000 ≤ s.now ∧
      90 ≤ (((s.hold.s16.map fun x => ((x : Int) + ((16 * min 400 m.toNat : Int) - x).tdiv 8).toNat).getD (16 * min
      400 m.toNat)) + 8) / 16 ∧ (c.hour = 2 ∨ c.hour = 3) ∧ s.hold.nightMark = false ∧
      s.hold.history.length + 1 < s.profile.retrainBudget ∧ s.port1.st ≠ .connected ∧ s.port1.st ≠ .loc ∧
      s.port2.st ≠ .connected ∧ s.port2.st ≠ .loc ∧ s.peerInUse = false ∧ s.survey.stage.measuring = false) ∧
    (∃ (k _l : Byte) (_m : Half) (s : State), s.isModem = true ∧ (s.hold.role = .recovering ∨
      s.hold.role = .resting) ∧ s.modem.link ≠ .up ∧ k.toNat = 2) ∧
    (∃ (k _l : Byte) (_m : Half) (s : State), s.isModem = true ∧ (s.hold.role = .quiet ∨
      s.hold.role = .standby) ∧ s.modem.link ≠ .up ∧ k.toNat = 2) ∧
    (∃ (k _l : Byte) (_m : Half) (s : State), s.isModem = true ∧ (s.hold.role = .quiet ∨
      s.hold.role = .standby ∨ s.hold.role = .recovering ∨ s.hold.role = .resting) ∧ (k.toNat ≠ 2 ∨
      s.modem.link = .up)) ∧
    (∃ (k _l : Byte) (_m : Half) (s : State), s.isModem = true ∧ s.hold.role = .training ∧
      (k.toNat = 1 ∨ s.hold.underWay = false)) ∧
    (∃ (s : State), s.isModem = true ∧ s.hold.role ≠ .holding ∧ s.modem.link = .up ∧
      (s.hold.role ≠ .training ∨ s.hold.underWay = false)) ∧
    (∃ (s : State), s.isModem = true ∧ s.hold.role = .training ∧ s.hold.underWay = true ∧ s.modem.link = .up) ∧
    (∃ (k _l : Byte) (_m : Half) (s : State), s.isModem = true ∧ s.modem.link = .up ∧ k.toNat ≠ 2) ∧
    (∃ (s : State), s.isModem = true ∧ s.modem.link = .up) ∧
    (∃ (s : State), Settled s ∧ s.isModem = true ∧ s.modem.link ≠ .up) ∧
    (∃ (_c _g : Byte) (s : State), Settled s ∧ s.isModem = true) :=
  ⟨⟨2, 9, 0, (inRole .training).onHold fun h => { h with underWay := true, stepLevel := some 5 }, by decide⟩,
   ⟨0, 0, 0, (inRole .training).onHold fun h => { h with underWay := true }, by decide⟩,
   ⟨1, 4, 400, inRole .holding, by decide⟩,
   ⟨(inRole .holding).onModem fun m => { m with link := .up }, by decide⟩,
   ⟨2, 4, 401, (inRole .holding).onHold fun h => { h with nightMark := true }, by decide⟩,
   ⟨2, 4, 0,
    (inRole .holding)
      |>.onHold fun h => { h with s16 := some 546, watch := some { expiry := 200000, earlier := 4 } },
    by decide⟩,
   ⟨2, 4, 29, { expiry := 200000, earlier := 4 },
    (inRole .holding).onHold fun h => { h with  watch := some { expiry := 200000, earlier := 4 } }, by decide⟩,
   ⟨2, 4, 400, { quality := .peer, month := 2, day := 29, hour := 3, minute := 59, second := 59 }, 100000,
    ((inRole .holding)
       |>.onHold fun h => { h with level := 7, upSince := some 100000, s16 := some 1440, history := [1, 2, 3, 4] })
      |>.onTime fun u => { u with
          uptime := 21700000,
          clock := some { quality := .peer, month := 2, day := 29, hour := 3, minute := 59, second := 59 } },
    by decide⟩,
   ⟨2, 1, 0, inRole .recovering, by decide⟩,
   ⟨2, 1, 0, base, by decide⟩,
   ⟨2, 9, 401, base.onModem fun m => { m with link := .up }, by decide⟩,
   ⟨1, 1, 0, (inRole .training).onHold fun h => { h with underWay := true }, by decide⟩,
   ⟨(inRole .recovering).onModem fun m => { m with link := .up }, by decide⟩,
   ⟨((inRole .training).onHold fun h => { h with underWay := true }).onModem fun m => { m with link := .up },
    by decide⟩,
   ⟨1, 9, 0,
    (inRole .holding)
      |>.onModem fun m => { m with
          link := .up, slot := some { cmd := .drop, waiting := true, deadline := 100001 },
          queue := [.brace 3, .respond [1, 7, 0]] },
    by decide⟩,
   ⟨base.onModem fun m => { m with
        link := .up, slot := some { cmd := .respond [1, 7, 0], waiting := true, deadline := 100001 } },
    by decide⟩,
   ⟨base.onModem fun m => { m with link := .training, linkUp := true }, settled_of _ (by decide), by decide⟩,
   ⟨6, 1, base.onModem fun m => { m with request := some { code := 1, tag := 1 } }, settled_of _ (by decide),
    by decide⟩⟩

theorem witness_HoldingTimers :
    (∃ (d : Nat) (s : State), s.hold.settleEnd = some d ∧ s.hold.role = .quiet ∧ d ≤ s.now ∧ s.anyHolder = true) ∧
    (∃ (d : Nat) (s : State), s.hold.settleEnd = some d ∧ s.isModem = true ∧ s.hold.role = .quiet ∧
      d ≤ s.now ∧ s.anyHolder = false ∧ s.profile.retrainBudget ≤ s.hold.history.length) ∧
    (∃ (d : Nat) (s : State), s.hold.settleEnd = some d ∧ s.isModem = true ∧ s.hold.role = .quiet ∧
      d ≤ s.now ∧ s.anyHolder = false ∧ s.hold.history.length < s.profile.retrainBudget) ∧
    (∃ (d : Nat) (s : State), s.hold.trainingEnd = some d ∧ s.hold.role = .training ∧ d ≤ s.now) ∧
    (∃ (d : Nat) (s : State), s.hold.retrainEnd = some d ∧ s.isModem = true ∧ s.hold.role = .recovering ∧
      d ≤ s.now ∧ s.hold.history.length < s.profile.retrainBudget) ∧
    (∃ (d : Nat) (s : State), s.hold.retrainEnd = some d ∧ s.hold.role = .recovering ∧
      d ≤ s.now ∧ s.profile.retrainBudget ≤ s.hold.history.length) ∧
    (∃ (h : Nat) (hs : List Nat) (s : State), s.hold.history = h :: hs ∧ s.isModem = true ∧
      h + 3600 ≤ s.secs ∧ (s.hold.role ≠ .resting ∨ s.profile.retrainBudget ≤ hs.length)) ∧
    (∃ (h : Nat) (hs : List Nat) (s : State), s.hold.history = h :: hs ∧ s.isModem = true ∧
      h + 3600 ≤ s.secs ∧ s.hold.role = .resting ∧ hs.length < s.profile.retrainBudget) ∧
    (∃ (f : RxFrame) (rest : List RxSlot) (s : State), s.chan.slots = .delivered f :: rest ∧
      rest.any RxSlot.isProcessing = false ∧ f.kind = .notice ∧ s.lowerHolder = false ∧
      (s.peer f.sender).any (fun e => e.present) = true ∧ s.isModem = true ∧ s.hold.role = .holding ∧
      s.hold.window = none) ∧
    (∃ (f : RxFrame) (rest : List RxSlot) (w : BraceWindow) (s : State),
      s.chan.slots = .delivered f :: rest ∧ s.hold.window = some w ∧ rest.any RxSlot.isProcessing = false ∧
      f.kind = .notice ∧ s.lowerHolder = false ∧ (s.peer f.sender).any (fun e => e.present) = true ∧
      s.isModem = true ∧ s.hold.role = .holding ∧ s.now ≤ w.ends ∧ w.ends ≤ w.start + 30000) ∧
    (∃ (d : Nat) (s : State), s.survey.dueEnd = some d ∧ s.survey.stage = .idle ∧ d ≤ s.now ∧
      (s.portsQuiet = true ∧ s.loop.loop = .opened ∧ s.line.st = .idle ∧ s.ring.call ≠ .inProgress ∧
      s.peerInUse = false ∧ (s.peers.any fun e => decide (e.showsRole = some .training)) = false ∧
      s.hold.role ≠ .training ∧ (s.peers.any fun e => e.notice.any fun n => decide (s.now ≤ n.receipt + 2000)) =
      false) ∧ s.isModem = true ∧ s.hold.role = .holding ∧ s.hold.window = none) ∧
    (∃ (d : Nat) (w : BraceWindow) (s : State), s.survey.dueEnd = some d ∧ s.hold.window = some w ∧
      s.survey.stage = .idle ∧ d ≤ s.now ∧ (s.portsQuiet = true ∧ s.loop.loop = .opened ∧
      s.line.st = .idle ∧ s.ring.call ≠ .inProgress ∧ s.peerInUse = false ∧
      (s.peers.any fun e => decide (e.showsRole = some .training)) = false ∧ s.hold.role ≠ .training ∧
      (s.peers.any fun e => e.notice.any fun n => decide (s.now ≤ n.receipt + 2000)) = false) ∧
      s.isModem = true ∧ s.hold.role = .holding ∧ s.now ≤ w.ends ∧ w.ends ≤ w.start + 30000) ∧
    (∃ (s : State), s.ring.burst = .starting ∧ s.ring.burstSince + 100 ≤ s.now ∧ s.isModem = true ∧
      s.hold.role = .holding ∧ s.hold.window = none) ∧
    (∃ (w : BraceWindow) (s : State), s.hold.window = some w ∧ s.ring.burst = .starting ∧
      s.ring.burstSince + 100 ≤ s.now ∧ s.isModem = true ∧ s.hold.role = .holding ∧ s.now ≤ w.ends ∧
      w.ends ≤ w.start + 30000) ∧
    (∃ (w : BraceWindow) (s : State), s.hold.window = some w ∧ s.isModem = true ∧ w.ends ≤ s.now) ∧
    (∃ (w : StepWatch) (s : State), Settled s ∧ s.hold.watch = some w ∧ w.expiry ≤ s.now) ∧
    (∃ (f : RxFrame) (rest : List RxSlot) (s : State), s.chan.slots = .delivered f :: rest ∧
      rest.any RxSlot.isProcessing = false ∧ f.kind = .state ∧ s.isModem = true ∧
      (s.hold.role = .training ∨ s.hold.role = .holding) ∧ (((readState f.body).role = .training ∨
      (readState f.body).role = .holding)) ∧ f.sender < s.own ∧ (s.peer f.sender).any (fun e => e.holder) = false) ∧
    (∃ (f : RxFrame) (rest : List RxSlot) (s : State), s.chan.slots = .delivered f :: rest ∧
      rest.any RxSlot.isProcessing = false ∧ f.kind = .state ∧ s.isModem = true ∧
      (s.hold.role = .recovering ∨ s.hold.role = .resting) ∧ (((readState f.body).role = .training ∨
      (readState f.body).role = .holding)) ∧ f.sender < s.own ∧ (s.peer f.sender).any (fun e => e.holder) = false) ∧
    (∃ (f : RxFrame) (rest : List RxSlot) (s : State), s.chan.slots = .delivered f :: rest ∧
      rest.any RxSlot.isProcessing = false ∧ f.kind = .state ∧ s.isModem = true ∧
      s.hold.role = .quiet ∧ (((readState f.body).role = .training ∨ (readState f.body).role = .holding)) ∧
      (s.peer f.sender).any (fun e => e.holder) = false) ∧
    (∃ (f : RxFrame) (rest : List RxSlot) (s : State), s.chan.slots = .delivered f :: rest ∧
      rest.any RxSlot.isProcessing = false ∧ f.kind = .state ∧ s.isModem = true ∧
      (s.hold.role = .training ∨ s.hold.role = .holding ∨ s.hold.role = .recovering ∨
      s.hold.role = .resting) ∧ s.own < f.sender ∧ s.lowerHolder = false) ∧
    (∃ (f : RxFrame) (rest : List RxSlot) (s : State), s.chan.slots = .delivered f :: rest ∧
      rest.any RxSlot.isProcessing = false ∧ f.kind = .state ∧ s.isModem = true ∧ s.hold.role = .standby ∧
      ¬ ((readState f.body).role = .training ∨ (readState f.body).role = .holding) ∧
      (s.peer f.sender).any (fun e => e.holder) = true ∧
      s.peers.all (fun e => decide (e.number = f.sender) || !e.holder) = true) ∧
    (∃ (f : RxFrame) (rest : List RxSlot) (s : State), s.chan.slots = .delivered f :: rest ∧
      rest.any RxSlot.isProcessing = false ∧ f.kind = .state ∧ s.isModem = true ∧
      s.hold.role = .standby ∧ (((readState f.body).role = .training ∨
      (readState f.body).role = .holding) ∨ (s.peers.any fun e => decide (e.number ≠ f.sender) && e.holder) = true)) ∧
    (∃ (f : RxFrame) (rest : List RxSlot) (e : Peer) (q : StateFields × Nat) (s : State),
      s.chan.slots = .delivered f :: rest ∧ s.peer f.sender = some e ∧ e.statePart = some q ∧
      rest.any RxSlot.isProcessing = false ∧ f.kind = .call ∧ s.isModem = true ∧
      s.hold.role ≠ .standby ∧ (s.hold.role = .quiet ∨ f.sender < s.own) ∧ e.present = false ∧
      (q.1.role = .training ∨ q.1.role = .holding)) ∧
    (∃ (n : Nat) (e : Peer) (d : Nat) (s : State), s.peer n = some e ∧ e.silenceEnd = some d ∧ e.present = true ∧
      d ≤ s.now ∧ s.isModem = true ∧ s.hold.role = .standby) :=
  ⟨⟨17000,
    base.onPeers fun _ => [
      { Peer.create 2 90000 with statePart := some ({ StateFields.atReset with role := .holding }, 90000) }],
    by decide⟩,
   ⟨17000, base.onHold fun h => { h with history := [0, 1, 2, 3, 4, 5] }, by decide⟩,
   ⟨17000, base, by decide⟩,
   ⟨100000, (inRole .training).onHold fun h => { h with trainingEnd := some 100000 }, by decide⟩,
   ⟨100000, (inRole .recovering).onHold fun h => { h with retrainEnd := some 100000, history := [0, 1, 2, 3, 4] },
    by decide⟩,
   ⟨100000,
    (inRole .recovering).onHold fun h => { h with retrainEnd := some 100000, history := [0, 1, 2, 3, 4, 5] },
    by decide⟩,
   ⟨100, [], (base.onHold fun h => { h with history := [100] }).onTime fun u => { u with uptime := 3700000 },
    by decide⟩,
   ⟨100, [101, 102, 103, 104, 105],
    ((inRole .resting).onHold fun h => { h with history := [100, 101, 102, 103, 104, 105] })
      |>.onTime fun u => { u with uptime := 3700000 },
    by decide⟩,
   ⟨(from2 .notice [1, 0]), [],
    hears (from2 .notice [1, 0]) ((inRole .holding).onPeers fun _ => [Peer.create 2 90000]), by decide⟩,
   ⟨(from2 .notice [1, 50]), [], { start := 70001, ends := 100001 },
    hears (from2 .notice [1, 50]) (
      ((inRole .holding).onHold fun h => { h with window := some { start := 70001, ends := 100001 } })
        |>.onPeers fun _ => [Peer.create 2 90000]),
    by decide⟩,
   ⟨100000, (inRole .holding).onSurvey fun v => { v with dueEnd := some 100000 }, by decide⟩,
   ⟨100000, { start := 70001, ends := 100001 },
    ((inRole .holding).onHold fun h => { h with window := some { start := 70001, ends := 100001 } })
      |>.onSurvey fun v => { v with dueEnd := some 100000 },
    by decide⟩,
   ⟨(inRole .holding).onRing fun r => { r with burst := .starting, burstSince := 99900, voltage := true },
    by decide⟩,
   ⟨{ start := 70001, ends := 100001 },
    ((inRole .holding).onHold fun h => { h with window := some { start := 70001, ends := 100001 } })
      |>.onRing fun r => { r with burst := .starting, burstSince := 99900, voltage := true },
    by decide⟩,
   ⟨{ start := 70000, ends := 100000 },
    (inRole .holding).onHold fun h => { h with window := some { start := 70000, ends := 100000 } }, by decide⟩,
   ⟨{ expiry := 100000, earlier := 4 },
    (inRole .holding).onHold fun h => { h with watch := some { expiry := 100000, earlier := 4 } },
    settled_of _ (by decide), by decide⟩,
   ⟨{ kind := .state, sender := 1, body := ({ StateFields.atReset with role := .training } : StateFields).bytes },
    [],
    hears {
      kind := .state, sender := 1,
      body := ({ StateFields.atReset with role := .training } : StateFields).bytes } ({
        (inRole .training) with loader := { base.loader with station := 2 } }),
    by decide⟩,
   ⟨{ kind := .state, sender := 7, body := ({ StateFields.atReset with role := .holding } : StateFields).bytes },
    [],
    hears {
      kind := .state, sender := 7,
      body := ({ StateFields.atReset with role := .holding } : StateFields).bytes } ({
        (inRole .resting) with loader := { base.loader with station := 8 } }),
    by decide⟩,
   ⟨{ kind := .state, sender := 2, body := ({ StateFields.atReset with role := .holding } : StateFields).bytes },
    [],
    hears {
      kind := .state, sender := 2,
      body := ({ StateFields.atReset with role := .holding } : StateFields).bytes } (base),
    by decide⟩,
   ⟨{ kind := .state, sender := 2, body := ({ StateFields.atReset with role := .training } : StateFields).bytes },
    [],
    hears {
      kind := .state, sender := 2,
      body := ({ StateFields.atReset with role := .training } : StateFields).bytes } (inRole .recovering),
    by decide⟩,
   ⟨{ kind := .state, sender := 2, body := ({ StateFields.atReset with role := .quiet } : StateFields).bytes },
    [],
    hears { kind := .state, sender := 2, body := ({ StateFields.atReset with role := .quiet } : StateFields).bytes } (
      (inRole .standby)
        |>.onPeers fun _ => [
          (
            { Peer.create 2 60000 with
                statePart := some ({ StateFields.atReset with role := .holding }, 60000) } : Peer)]),
    by decide⟩,
   ⟨{ kind := .state, sender := 2, body := ({ StateFields.atReset with role := .quiet } : StateFields).bytes },
    [],
    hears { kind := .state, sender := 2, body := ({ StateFields.atReset with role := .quiet } : StateFields).bytes } (
      (inRole .standby)
        |>.onPeers fun _ => [
          (
            { Peer.create 2 60000 with
                statePart := some ({ StateFields.atReset with role := .holding }, 60000) } : Peer),
          (
            { Peer.create 8 60000 with
                statePart := some ({ StateFields.atReset with role := .holding }, 60000) } : Peer)]),
    by decide⟩,
   ⟨{ kind := .call, sender := 1, body := [1, 3, 15] }, [],
    ({ Peer.create 1 60000 with statePart := some ({ StateFields.atReset with role := .holding }, 60000) } : Peer)
      |>.silence 60000,
    ({ StateFields.atReset with role := .holding }, 60000),
    hears { kind := .call, sender := 1, body := [1, 3, 15] } (
      { (
          (inRole .holding)
            |>.onPeers fun _ => [
              ({ Peer.create 1 60000 with
                   statePart := some ({ StateFields.atReset with role := .holding }, 60000) } : Peer)
                |>.silence 60000]) with loader := { base.loader with station := 2 } }),
    by decide⟩,
   ⟨2,
    (
      { Peer.create 2 60000 with statePart := some ({ StateFields.atReset with role := .holding }, 60000) } : Peer),
    100000,
    (inRole .standby)
      |>.onPeers fun _ => [
        (
          { Peer.create 2 60000 with
              statePart := some ({ StateFields.atReset with role := .holding }, 60000) } : Peer)],
    by decide⟩⟩

theorem witness_SurveyStages :
    (∃ (d : Nat) (s : State), s.survey.dueEnd = some d ∧ s.survey.stage = .idle ∧ d ≤ s.now ∧
      (s.portsQuiet = true ∧ s.loop.loop = .opened ∧ s.line.st = .idle ∧ s.ring.call ≠ .inProgress ∧
      s.peerInUse = false ∧ (s.peers.any fun e => decide (e.showsRole = some .training)) = false ∧
      s.hold.role ≠ .training ∧ (s.peers.any fun e => e.notice.any fun n => decide (s.now ≤ n.receipt + 2000)) =
      false)) ∧
    (∃ (d : Nat) (s : State), s.survey.dueEnd = some d ∧ s.survey.stage = .idle ∧ d ≤ s.now ∧
      ¬ (s.portsQuiet = true ∧ s.loop.loop = .opened ∧ s.line.st = .idle ∧ s.ring.call ≠ .inProgress ∧
      s.peerInUse = false ∧ (s.peers.any fun e => decide (e.showsRole = some .training)) = false ∧
      s.hold.role ≠ .training ∧ (s.peers.any fun e => e.notice.any fun n => decide (s.now ≤ n.receipt + 2000)) =
      false)) ∧
    (∃ (l : SurveyLead) (s : State), Settled s ∧ s.survey.lead = some l ∧ s.survey.stage = .notice ∧
      min (l.placed + 400) ((l.sent.map (· + 100)).getD (l.placed + 400)) ≤ s.now ∧
      (s.portsQuiet = true ∧ s.loop.loop = .opened ∧ s.line.st = .idle ∧ s.ring.call ≠ .inProgress ∧
      s.peerInUse = false ∧ (s.peers.any fun e => decide (e.showsRole = some .training)) = false ∧
      s.hold.role ≠ .training ∧ (s.peers.any fun e => e.notice.any fun n => decide (s.now ≤ n.receipt + 2000)) =
      false)) ∧
    (∃ (l : SurveyLead) (s : State), Settled s ∧ s.survey.lead = some l ∧ s.survey.stage = .notice ∧
      min (l.placed + 400) ((l.sent.map (· + 100)).getD (l.placed + 400)) ≤ s.now ∧
      ¬ (s.portsQuiet = true ∧ s.loop.loop = .opened ∧ s.line.st = .idle ∧ s.ring.call ≠ .inProgress ∧
      s.peerInUse = false ∧ (s.peers.any fun e => decide (e.showsRole = some .training)) = false ∧
      s.hold.role ≠ .training ∧ (s.peers.any fun e => e.notice.any fun n => decide (s.now ≤ n.receipt + 2000)) =
      false)) ∧
    (∃ (_x : Code) (s : State), Settled s ∧ s.survey.stage = .opened ∧
      s.survey.sampleAt ≤ 8 * s.now + 7 ∧ s.survey.taken < 15) ∧
    (∃ (_x : Code) (s : State), Settled s ∧ s.survey.stage = .opened ∧
      s.survey.sampleAt ≤ 8 * s.now + 7 ∧ s.survey.taken = 15) ∧
    (∃ (_x _y : Code) (s : State), Settled s ∧ s.survey.stage = .load ∧
      s.survey.sampleAt ≤ 8 * s.now + 7 ∧ s.survey.taken < 15) ∧
    (∃ (_x _y : Code) (s : State), Settled s ∧ s.survey.stage = .load ∧
      s.survey.sampleAt ≤ 8 * s.now + 7 ∧ s.survey.taken = 15) ∧
    (∃ (_x _y : Code) (s : State), Settled s ∧ s.survey.stage = .earth ∧
      s.survey.sampleAt ≤ 8 * s.now + 7 ∧ s.survey.taken < 15) ∧
    (∃ (_x _y : Code) (s : State), Settled s ∧ s.survey.stage = .earth ∧
      s.survey.sampleAt ≤ 8 * s.now + 7 ∧ s.survey.taken = 15) ∧
    (∃ (_x : Code) (s : State), Settled s ∧ s.survey.stage = .noise ∧
      s.survey.sampleAt ≤ 8 * s.now + 7 ∧ s.survey.taken < 255) :=
  ⟨⟨100000, base.onSurvey fun v => { v with dueEnd := some 100000 }, by decide⟩,
   ⟨100000, (onOne (off .loc)).onSurvey fun v => { v with dueEnd := some 100000, deferrals := 9 }, by decide⟩,
   ⟨{ placed := 99600, stale := false, sent := none },
    base.onSurvey fun v => { v with
        stage := .notice, dueEnd := none, lead := some { placed := 99600, stale := false, sent := none } },
    settled_of _ (by decide), by decide⟩,
   ⟨{ placed := 99800, stale := false, sent := some 99900 },
    (onOne (off .loc))
      |>.onSurvey fun v => { v with
          stage := .notice, dueEnd := none,
          lead := some { placed := 99800, stale := false, sent := some 99900 } },
    settled_of _ (by decide), by decide⟩,
   ⟨4095, base.onSurvey fun v => { v with stage := .opened, taken := 14, sampleAt := 800000, loadOn := false },
    settled_of _ (by decide), by decide⟩,
   ⟨0, base.onSurvey fun v => { v with stage := .opened, taken := 15, sampleAt := 800000, loadOn := false },
    settled_of _ (by decide), by decide⟩,
   ⟨4095, 4095, base.onSurvey fun v => { v with stage := .load, taken := 14, sampleAt := 800000, loadOn := true },
    settled_of _ (by decide), by decide⟩,
   ⟨0, 0, base.onSurvey fun v => { v with stage := .load, taken := 15, sampleAt := 800000, loadOn := true },
    settled_of _ (by decide), by decide⟩,
   ⟨4095, 4095,
    base.onSurvey fun v => { v with stage := .earth, taken := 14, sampleAt := 800000, loadOn := false },
    settled_of _ (by decide), by decide⟩,
   ⟨0, 0, base.onSurvey fun v => { v with stage := .earth, taken := 15, sampleAt := 800000, loadOn := false },
    settled_of _ (by decide), by decide⟩,
   ⟨2048, base.onSurvey fun v => { v with stage := .noise, taken := 254, sampleAt := 800000, loadOn := false },
    settled_of _ (by decide), by decide⟩⟩

theorem witness_SurveyCompletes :
    ∃ (_x : Code) (s : State), s.survey.stage = .noise ∧ s.survey.sampleAt ≤ 8 * s.now + 7 ∧ s.survey.taken = 255 :=
  ⟨2047, base.onSurvey fun v => { v with stage := .noise, taken := 255, sampleAt := 800000, loadOn := false },
   by decide⟩

theorem witness_LocalisationRuns :
    (∃ (u : Run) (r : RunSet) (s : State), s.log.run = some u ∧ u.ends ≤ s.now ∧ r ∈ u.sets ∧ ((∀ x ∈ u.sets,
      r.feed < x.feed ∨ (r.feed = x.feed ∧ r.station ≤ x.station))) ∧
      u.sets.Pairwise (fun a b => a.station < b.station) ∧ s.log.records.length + u.sets.length ≤ 32 ∧
      30 ≤ s.profile.jointThreshold ∧ s.log.pendingRun = none) ∧
    (∃ (u : Run) (r : RunSet) (s : State), s.log.run = some u ∧ u.ends ≤ s.now ∧ r ∈ u.sets ∧ ((∀ x ∈ u.sets,
      r.feed < x.feed ∨ (r.feed = x.feed ∧ r.station ≤ x.station))) ∧
      u.sets.Pairwise (fun a b => a.station < b.station)) ∧
    (∃ (u : Run) (h : Bool) (s : State), s.log.run = some u ∧ s.log.pendingRun = some h ∧ u.ends ≤ s.now ∧
      u.sets ≠ []) ∧
    (∃ (f : RxFrame) (rest : List RxSlot) (s : State), s.chan.slots = .delivered f :: rest ∧
      rest.any RxSlot.isProcessing = false ∧ f.kind = .survey ∧ s.isModem = true ∧ s.log.run = none) :=
  ⟨⟨{ sets := [
        { station := 1, feed := 1628, offset := 0 }, { station := 2, feed := 1628, offset := 0 },
        { station := 3, feed := 1749, offset := 0 }],
      ends := 100000, holdsSlot := false },
    { station := 1, feed := 1628, offset := 0 },
    base.onLog fun l => { l with
        run := some {
          sets := [
            { station := 1, feed := 1628, offset := 0 }, { station := 2, feed := 1628, offset := 0 },
            { station := 3, feed := 1749, offset := 0 }],
          ends := 100000, holdsSlot := false } },
    by decide⟩,
   ⟨{ sets := [
        { station := 1, feed := 1628, offset := 0 }, { station := 2, feed := 1628, offset := 0 },
        { station := 3, feed := 1749, offset := 0 }],
      ends := 100000, holdsSlot := false },
    { station := 1, feed := 1628, offset := 0 },
    base.onLog fun l => { l with
        run := some {
          sets := [
            { station := 1, feed := 1628, offset := 0 }, { station := 2, feed := 1628, offset := 0 },
            { station := 3, feed := 1749, offset := 0 }],
          ends := 100000, holdsSlot := false } },
    by decide⟩,
   ⟨{ sets := [
        { station := 1, feed := 1628, offset := 0 }, { station := 2, feed := 1628, offset := 0 },
        { station := 3, feed := 1749, offset := 0 }],
      ends := 100000, holdsSlot := false },
    true,
    base.onLog fun l => { l with
        run := some {
          sets := [
            { station := 1, feed := 1628, offset := 0 }, { station := 2, feed := 1628, offset := 0 },
            { station := 3, feed := 1749, offset := 0 }],
          ends := 100000, holdsSlot := false },
        pendingRun := some true },
    by decide⟩,
   ⟨(from2 .survey someFigures.bytes), [], hears (from2 .survey someFigures.bytes) base, by decide⟩⟩

theorem witness_Requests :
    (∃ (r : Request) (s : State), s.modem.request = some r ∧ s.isModem = true ∧
      s.resp.outstanding = none ∧ s.modem.link = .up ∧ r.code.toNat = 1) ∧
    (∃ (r : Request) (x : Record) (s : State), s.modem.request = some r ∧
      s.log.records.find? (fun y => !y.reported) = some x ∧ s.isModem = true ∧
      s.resp.outstanding = none ∧ s.modem.link = .up ∧ r.code.toNat = 2) ∧
    (∃ (r : Request) (s : State), s.modem.request = some r ∧ s.isModem = true ∧
      s.resp.outstanding = none ∧ s.modem.link = .up ∧ r.code.toNat = 2 ∧
      s.log.records.all (fun y => y.reported) = true) ∧
    (∃ (r : Request) (s : State), s.modem.request = some r ∧ s.isModem = true ∧
      s.resp.outstanding = none ∧ s.modem.link = .up ∧ r.code.toNat = 3) ∧
    (∃ (r : Request) (s : State), s.modem.request = some r ∧ s.isModem = true ∧
      s.resp.outstanding = none ∧ s.modem.link = .up ∧ r.code.toNat = 4) ∧
    (∃ (r : Request) (s : State), s.modem.request = some r ∧ s.isModem = true ∧
      s.resp.outstanding = none ∧ s.modem.link = .up ∧ r.code.toNat = 5 ∧ s.survey.stage ≠ .idle) ∧
    (∃ (r : Request) (s : State), s.modem.request = some r ∧ s.isModem = true ∧
      s.resp.outstanding = none ∧ s.modem.link = .up ∧ r.code.toNat = 5 ∧ s.survey.stage = .idle ∧
      ¬ (s.portsQuiet = true ∧ s.loop.loop = .opened ∧ s.line.st = .idle ∧ s.ring.call ≠ .inProgress ∧
      s.peerInUse = false ∧ (s.peers.any fun e => decide (e.showsRole = some .training)) = false ∧
      s.hold.role ≠ .training ∧ (s.peers.any fun e => e.notice.any fun n => decide (s.now ≤ n.receipt + 2000)) =
      false)) ∧
    (∃ (r : Request) (s : State), s.modem.request = some r ∧ s.isModem = true ∧
      s.resp.outstanding = none ∧ s.modem.link = .up ∧ r.code.toNat = 5 ∧ s.survey.stage = .idle ∧
      (s.portsQuiet = true ∧ s.loop.loop = .opened ∧ s.line.st = .idle ∧ s.ring.call ≠ .inProgress ∧
      s.peerInUse = false ∧ (s.peers.any fun e => decide (e.showsRole = some .training)) = false ∧
      s.hold.role ≠ .training ∧ (s.peers.any fun e => e.notice.any fun n => decide (s.now ≤ n.receipt + 2000)) =
      false) ∧ s.hold.role ≠ .holding) ∧
    (∃ (r : Request) (s : State), s.modem.request = some r ∧ s.isModem = true ∧
      s.resp.outstanding = none ∧ s.modem.link = .up ∧ r.code.toNat = 5 ∧ s.survey.stage = .idle ∧
      (s.portsQuiet = true ∧ s.loop.loop = .opened ∧ s.line.st = .idle ∧ s.ring.call ≠ .inProgress ∧
      s.peerInUse = false ∧ (s.peers.any fun e => decide (e.showsRole = some .training)) = false ∧
      s.hold.role ≠ .training ∧ (s.peers.any fun e => e.notice.any fun n => decide (s.now ≤ n.receipt + 2000)) =
      false) ∧ s.hold.role = .holding ∧ s.hold.window = none ∧
      (s.modem.queue.filter fun x => !x.isBrace).length ≤ 2 ∧ s.modem.queue.length < 4) ∧
    (∃ (r : Request) (w : BraceWindow) (s : State), s.modem.request = some r ∧ s.hold.window = some w ∧
      s.isModem = true ∧ s.resp.outstanding = none ∧ s.modem.link = .up ∧ r.code.toNat = 5 ∧
      s.survey.stage = .idle ∧ (s.portsQuiet = true ∧ s.loop.loop = .opened ∧ s.line.st = .idle ∧
      s.ring.call ≠ .inProgress ∧ s.peerInUse = false ∧
      (s.peers.any fun e => decide (e.showsRole = some .training)) = false ∧ s.hold.role ≠ .training ∧
      (s.peers.any fun e => e.notice.any fun n => decide (s.now ≤ n.receipt + 2000)) = false) ∧
      s.hold.role = .holding ∧ s.now ≤ w.ends ∧ w.ends ≤ w.start + 30000 ∧
      (s.modem.queue.filter fun x => !x.isBrace).length ≤ 2 ∧ s.modem.queue.length < 4) ∧
    (∃ (r : Request) (s : State), s.modem.request = some r ∧ s.isModem = true ∧
      s.resp.outstanding = none ∧ s.modem.link = .up ∧ r.code.toNat = 6) ∧
    (∃ (r : Request) (s : State), s.modem.request = some r ∧ s.isModem = true ∧
      s.resp.outstanding = none ∧ s.modem.link = .up ∧ (r.code.toNat = 0 ∨ 7 ≤ r.code.toNat)) ∧
    (∃ (c : Instr) (s : State), c ∈ ([.summary, .next, .clear, .figures, .surveyRequest,
      .restartRequest, .unknownRequest] : List Instr) ∧ (s.isModem = false ∨
      s.modem.request = none ∨ s.resp.outstanding ≠ none ∨ s.modem.link ≠ .up)) ∧
    (∃ (lit : Bool) (e : Nat) (s : State), Settled s ∧ s.lamps.line = .flashing lit e ∧ e ≤ s.now) :=
  ⟨⟨{ code := 1, tag := 7 }, asked 1 base, by decide⟩,
   ⟨{ code := 2, tag := 7 },
    { seq := 65535, cls := .earth, origin := 1, qual := none, source := .own, st := .cleared, reported := false,
      first := 10, last := 20, stamp := none, count := 1, value := some 200 },
    (asked 2 base)
      |>.onLog fun l => { l with
          records := [
            { seq := 65535, cls := .earth, origin := 1, qual := none, source := .own, st := .cleared,
              reported := false, first := 10, last := 20, stamp := none, count := 1, value := some 200 }] },
    by decide⟩,
   ⟨{ code := 2, tag := 7 },
    (asked 2 base)
      |>.onLog fun l => { l with
          records := [
            { seq := 65535, cls := .earth, origin := 1, qual := none, source := .own, st := .cleared,
              reported := true, first := 10, last := 20, stamp := none, count := 1, value := some 200 }] },
    by decide⟩,
   ⟨{ code := 3, tag := 7 }, asked 3 base, by decide⟩,
   ⟨{ code := 4, tag := 7 }, asked 4 base, by decide⟩,
   ⟨{ code := 5, tag := 7 }, (asked 5 base).onSurvey fun v => { v with stage := .noise }, by decide⟩,
   ⟨{ code := 5, tag := 7 }, asked 5 (onOne (off .loc)), by decide⟩,
   ⟨{ code := 5, tag := 7 }, asked 5 base, by decide⟩,
   ⟨{ code := 5, tag := 7 },
    (asked 5 (inRole .holding))
      |>.onModem fun m => { m with
          slot := some { cmd := .unbrace, waiting := true, deadline := 100001 },
          queue := [.drop, .brace 3, .train 4] },
    by decide⟩,
   ⟨{ code := 5, tag := 7 }, { start := 70001, ends := 100001 },
    asked 5 ((inRole .holding).onHold fun h => { h with window := some { start := 70001, ends := 100001 } }),
    by decide⟩,
   ⟨{ code := 6, tag := 7 }, asked 6 base, by decide⟩,
   ⟨{ code := 7, tag := 7 }, asked 7 base, by decide⟩,
   ⟨.unknownRequest,
    (asked 7 base).onResp fun u => { u with outstanding := some { code := 1, tag := 6, issued := 90000 } },
    by decide⟩,
   ⟨true, 100000, (inRole .training).onLamps fun l => { l with line := .flashing true 100000 },
    settled_of _ (by decide), by decide⟩⟩

theorem witness_StepRunsFrontCommand : (base.onPending fun _ => [.ringVoltageOn]).pending = .ringVoltageOn :: [] := rfl

theorem witness_EmptyQueueStep :
    (∃ s : State, s.pending = [] ∧ s.due = []) ∧ (∃ s : State, s.pending = [] ∧ s.due ≠ []) :=
  ⟨⟨base.onTime fun u => { u with uptime := 0, secTaken := 0 }, rfl, by decide⟩, ⟨base, rfl, by decide⟩⟩

theorem witness_KeptUntilPowerUp :
    ∃ (c : Instr) (s t : State), exec c s = .next t ∧ ∀ straps memory, c ≠ .powerUp straps memory :=
  ⟨.ringVoltageOn, base, _, rfl, nofun⟩

theorem witness_StationRestart :
    (∃ s, restartsBy (.localRestartDue .one) .loc s) ∧ (∃ s, restartsBy .restartDeadlineExpiry .remote s) ∧
    (∃ s, restartsBy .commandTake .remote s) :=
  ⟨⟨onOne { off .loc with restartAt := some 100000 }, .inl ⟨.one, 100000, rfl, rfl, rfl, by decide⟩⟩,
   ⟨base.onResp fun r => { r with restartEnd := some 100000 }, .inr (.inl ⟨100000, rfl, rfl, rfl, by decide⟩)⟩,
   ⟨(base.onModem fun m =>
        { m with slot := some { cmd := .respond [6, 7, 2, 0], waiting := true, deadline := 101000 } })
      |>.onResp fun r => { r with outstanding := some { code := 6, tag := 7, issued := 99000 } },
    .inr (.inr ⟨_, _, _, rfl, rfl, rfl, rfl, rfl, rfl, rfl⟩)⟩⟩

/-- The sums of sixteen samples each of `vo`, `vl`, `ci`, `vt`, `vr`, and a NOISE sum. -/
def summed (vo vl ci vt vr noise : Nat) : State :=
  base.onSurvey fun v =>
    { v with sums := { openV := 16 * vo, loadV := 16 * vl, loadI := 16 * ci, earthTip := 16 * vt,
                       earthRing := 16 * vr, noise := noise } }

theorem witness_MeansAndFeedResistance :
    (∃ s : State, s.survey.sums.openV ≤ 65520 ∧ s.survey.sums.loadV ≤ 65520 ∧ s.survey.sums.loadI ≤ 65520 ∧
      s.survey.sums.earthTip ≤ 65520 ∧ s.survey.sums.earthRing ≤ 65520 ∧ (s.survey.sums.loadI + 8) / 16 < 200) ∧
    (∃ s : State, s.survey.sums.openV ≤ 65520 ∧ s.survey.sums.loadV ≤ 65520 ∧ s.survey.sums.loadI ≤ 65520 ∧
      s.survey.sums.earthTip ≤ 65520 ∧ s.survey.sums.earthRing ≤ 65520 ∧ 200 ≤ (s.survey.sums.loadI + 8) / 16 ∧
      (s.survey.sums.openV + 8) / 16 ≤ (s.survey.sums.loadV + 8) / 16) ∧
    (∃ s : State, s.survey.sums.openV ≤ 65520 ∧ s.survey.sums.loadV ≤ 65520 ∧ s.survey.sums.loadI ≤ 65520 ∧
      s.survey.sums.earthTip ≤ 65520 ∧ s.survey.sums.earthRing ≤ 65520 ∧ 200 ≤ (s.survey.sums.loadI + 8) / 16 ∧
      (s.survey.sums.loadV + 8) / 16 < (s.survey.sums.openV + 8) / 16) :=
  ⟨⟨summed 4095 4095 199 4095 4095 0, by decide⟩, ⟨summed 1376 1376 200 0 0 0, by decide⟩,
   ⟨summed 4095 0 4095 0 0 0, by decide⟩⟩

theorem witness_ImbalanceAndNoiseGrade :
    (∃ s : State, s.survey.sums.earthTip ≤ 65520 ∧ s.survey.sums.earthRing ≤ 65520 ∧
      s.survey.sums.noise ≤ 524288 ∧ (s.survey.sums.earthTip + 8) / 16 + (s.survey.sums.earthRing + 8) / 16 < 64) ∧
    (∃ s : State, s.survey.sums.earthTip ≤ 65520 ∧ s.survey.sums.earthRing ≤ 65520 ∧
      s.survey.sums.noise ≤ 524288 ∧ 64 ≤ (s.survey.sums.earthTip + 8) / 16 + (s.survey.sums.earthRing + 8) / 16) :=
  ⟨⟨summed 0 0 0 40 23 524288, by decide⟩, ⟨summed 0 0 0 64 0 0, by decide⟩⟩

/-- A STATE whose fields all stand at the ends of their ranges. -/
def fullState : StateFields :=
  { cause := .loc, count := 255, port1 := .lockout, port2 := .lockout, loop := .hold, role := .resting,
    braced := true, offer := some (8, 15), took := some (1, 1),
    clock := some { quality := 2, month := 12, day := 31, hour := 23, minute := 59 }, ownFaults := 32 }

/-- A snapshot of six entries with the more mark. -/
def fullSnapshot : Snapshot :=
  { entries := List.replicate 6 { cls := 15, qual := some 8, count := 255, value := some 9999 }, more := true }

theorem witness_FramesArriveAsSent :
    ((Frame.state fullState).fits = true ∧ (Frame.notice .handover 50).fits = true ∧
      (Frame.call .taken 8 15).fits = true ∧ (Frame.fault fullSnapshot).fits = true ∧
      (Frame.survey someFigures).fits = true) ∧
    (∃ (n : Nat) (s : State), Settled s ∧ 1 ≤ n ∧ n ≤ 8 ∧ n ≠ s.own ∧ s.chan.rx = .frame ∧
      s.chan.slots.contains .filling = true) :=
  ⟨by decide,
   ⟨8, base.onChan fun c => { c with rx := .frame, slots := [.filling] }, settled_of _ (by decide), by decide⟩⟩

theorem witness_FramesArriveAsSent_sync :
    ∃ s : State, Settled s ∧ s.chan.rx = .hunt ∧ s.chan.slots.length < 2 :=
  ⟨base.onChan fun c => { c with slots := [.delivered (from2 .notice [2, 3])] }, settled_of _ (by decide), by decide⟩

/-- A port that rings for a recall, its gate open for `ms`. -/
def gateOpen (ms : Nat) : State :=
  (onOne (ringing .recall)).onRingOf .one fun r =>
    { r with mode := .pattern .recall 3 true 101000, gateSince := some (100000 - ms) }

theorem witness_PatternsAndOverload_wave :
    (∃ (s : State) (p : PortId) (o : Nat), (s.port p).st = .ringing ∧ (s.ringOf p).gateSince = some o ∧
      (s.ringOf p).cut = false ∧ o ≤ s.now) ∧
    (∃ (s : State) (p : PortId), (s.port p).st ≠ .ringing ∨ (s.ringOf p).gateSince = none ∨ (s.ringOf p).cut = true) :=
  ⟨⟨gateOpen 0, .one, 100000, by decide⟩, ⟨base, .two, by decide⟩⟩

theorem witness_CarrierAndGap_carrier : ∃ s : State, s.chan.carrierPresent = true ∧ s.chan.carrier = false :=
  ⟨base.onChan fun c => { c with tx := .sending, rx := .silent, flight := some (.notice .loopOpen 3) }, by decide⟩

theorem witness_ClockAdvanceAndAdoption_kept : ∃ s t : State, ClockOk s ∧ step s = .next t :=
  ⟨(base.onTime fun u =>
        { u with clock := some { quality := .caller, month := 12, day := 31, hour := 23, minute := 59, second := 59 },
                 secTaken := 99 })
      |>.onPending fun _ => [.dayClockAdvance], _, clock_of _ _ rfl (by decide), rfl⟩

theorem witness_LineSamples_kept : ∃ s t : State, LineOk s ∧ step s = .next t :=
  ⟨(base.onLine fun m => { m with st := .inUse, useRun := 3, lowRun := 39, drop := 39 })
      |>.onPending fun _ => [.lineSample 63], _, line_of _ (by decide), rfl⟩

theorem witness_Requests_figures :
    (∃ now ends : Nat, now ≤ ends + 3276800 ∧ ends ≤ now + 3276700 ∧ ends < now) ∧
    (∃ now ends : Nat, now ≤ ends + 3276800 ∧ ends ≤ now + 3276700 ∧ now ≤ ends) ∧ (∃ age : Nat, age < 16777216) :=
  ⟨⟨3276800, 0, by decide⟩, ⟨0, 3276700, by decide⟩, ⟨16777215, by decide⟩⟩

theorem witness_EveryChangeIsAnnounced :
    (∃ (c : Instr) (s t : State), exec c s = .next t ∧ t.announced ≠ s.announced ∧ s.log.snapshotAsked = false ∧
      t.log.snapshot ≠ s.log.snapshot ∧ ∀ straps memory, c ≠ .powerUp straps memory) ∧
    (∃ (c : Instr) (s t : State), exec c s = .next t ∧ t.announced = s.announced ∧ c ≠ .announceTimerExpiry ∧
      (∀ straps memory, c ≠ .powerUp straps memory) ∧ ∀ cause, ¬ restartsBy c cause s) :=
  ⟨⟨.lockout .one, onOne { off .loc with lockoutEnd := some 100000 }, _, rfl, by decide, rfl, by decide,
    nofun⟩,
   ⟨.carrierPresent, base, _, rfl, by decide, nofun, nofun,
    by rintro cause (⟨_, _, h, _⟩ | ⟨_, h, _⟩ | ⟨_, _, _, h, _⟩) <;> cases h⟩⟩

theorem witness_PortsAndLampsKept : ∃ s t : State, PortsOk s ∧ Settled s ∧ step s = .next t :=
  ⟨(onOne { off .loc with lockoutEnd := some 100000 }).onPending fun _ => [.lockout .one], _,
   by unfold PortsOk; decide, settled_of _ (by decide), rfl⟩

theorem witness_RingingKept : ∃ s t : State, RingOk s ∧ step s = .next t :=
  ⟨((onOne (ringing .recall)).onRingOf .one fun r =>
        { r with mode := .pattern .recall 3 true 100000, gateSince := some 99800 })
      |>.onPending fun _ => [.patternPeriodEnd .one], _,
   by unfold RingOk ringingOk; decide, rfl⟩

theorem witness_LoopAndSurveyKept : ∃ s t : State, PortsOk s ∧ LoopOk s ∧ SurveyOk s ∧ step s = .next t :=
  ⟨((onOne (off .connected)).onLoop fun u => { u with loop := .closed }).onPending fun _ => [.flashWindowExpiry .one], _,
   by unfold PortsOk; decide, loop_of _ rfl rfl (by decide), ⟨by decide, by decide, by decide, by decide⟩, rfl⟩

theorem witness_ChannelAndPeersKept : ∃ s t : State, ChannelOk s ∧ PeersOk s ∧ step s = .next t :=
  ⟨(base.onPeers fun _ => [Peer.create 2 60000, (Peer.create 8 0).silence 60000])
      |>.onPending fun _ => [.peerSilenceExpiry 2], _,
   channel_of _ rfl (by decide), ⟨by decide, by decide, by decide⟩, rfl⟩

theorem witness_HoldingKept :
    ∃ s t : State, ChannelOk s ∧ PeersOk s ∧ QueueOk s ∧ HoldOk s ∧ step s = .next t :=
  ⟨base.onPending fun _ => [.settleTimerExpiry], _, channel_of _ rfl (by decide), ⟨by decide, by decide, by decide⟩,
   ⟨by decide, by decide, by decide, by decide, by decide⟩,
   ⟨by decide, by decide, by decide, by decide, nofun, by decide, by decide, by decide⟩, rfl⟩

theorem witness_LogKept : ∃ s t : State, LogOk s.log ∧ step s = .next t :=
  ⟨(onOne { off .loc with lockoutEnd := some 100000 }).onPending fun _ => [.lockout .one], _,
   ⟨by decide, by decide, by decide, by decide, by decide, by decide, by decide⟩, rfl⟩

/-- The eligible sets at the end of their age: own figures of 7200 s, a SILENT peer's of 7200 s and a part of the next,
and a third set one second older, which is none. -/
theorem witness_LocalisationRuns_eligible :
    ∃ s : State, PeersOk s ∧ s.eligibleSets = [⟨1, 1628, 0⟩, ⟨2, 1628, 0⟩] :=
  ⟨((base.onTime fun u => { u with uptime := 7290000 }).onSurvey fun v => { v with figures := some someFigures })
      |>.onPeers fun _ =>
        [{ (Peer.create 2 60000).silence 100000 with figures := some (someFigures, 89001) },
         { Peer.create 3 7260000 with figures := some (someFigures, 88999) }],
   ⟨by decide, by decide, by decide⟩, by decide⟩

theorem witness_Collision_merge :
    (∃ s : State, s.chan.noticeSlot = none) ∧ ∃ s : State, s.chan.noticeSlot = some (.surveyLoad, 5) :=
  ⟨⟨base, rfl⟩, base.onChan fun c => { c with noticeSlot := some (.surveyLoad, 5) }, rfl⟩

/-! ### Well-formedness refuses an ill-formed term, check by check -/

theorem test_powerUp_reads_24_bytes :
    (Instr.powerUp { numberPins := 0, modem := false, port2 := false } (List.replicate 25 0)).wellFormed = false := by
  decide

theorem test_transfer_station : (Instr.transfer .one 9).wellFormed = false := by decide

theorem test_flashCodeRefused_zero : (Instr.flashCodeRefused .one (.num 0)).wellFormed = false := by decide

theorem test_serviceCodeRefused_three : (Instr.serviceCodeRefused .one (.num 3)).wellFormed = false := by decide

theorem test_bodyLength_32 : (Instr.bodyLengthTooLong 32).wellFormed = false := by decide

theorem test_frameEnd_33_bytes : (Instr.frameEnd 0x11 (List.replicate 33 0) 0).wellFormed = false := by decide

theorem test_sync_15_bits : (Instr.syncFound (List.replicate 15 true)).wellFormed = false := by decide

theorem test_silence_station : (Instr.peerSilenceExpiry 0).wellFormed = false := by decide

theorem test_removal_station : (Instr.peerRemovalExpiry 9).wellFormed = false := by decide

theorem test_no_word_spells_a_command : decodeTableWord 8 0x0F = none := rfl

/-! ### The manual's worked cases -/

/-- 08, the tables of R141 and R142: healthy, high, negative difference, low current. -/
theorem test_feed_resistance :
    mean16 25600 = 1600 ∧ mean16 22016 = 1376 ∧ mean16 13760 = 860 ∧
    feedResistance 1600 1376 860 = (some 1628, false) ∧ feedResistance 1600 480 300 = (some 9999, true) ∧
    feedResistance 1602 1605 860 = (some 0, false) ∧ feedResistance 210 180 150 = (none, false) := by decide

/-- 08, the table of R143. -/
theorem test_earth_imbalance :
    earthImbalance 1200 1500 = some 111 ∧ earthImbalance 700 900 = some 125 ∧
    earthImbalance 1000 0 = some 1000 ∧ earthImbalance 40 23 = none := by decide

/-- 08, the table of R144. -/
theorem test_noise_grade :
    noiseGrade 300 = 0 ∧ noiseGrade 5000 = 7 ∧ noiseGrade 11500 = 10 ∧ noiseGrade 524288 = 15 := by decide

/-- 07, the worked case of R121. -/
theorem test_margin :
    nextS16 none 100 = 1600 ∧ nextS16 (some 1600) 40 = 1480 ∧ nextS16 (some 1480) 40 = 1375 ∧
    nextS16 (some 1375) 400 = 2003 ∧ nextS16 (some 2003) 30 = 1813 ∧ smoothed 1600 = 100 ∧ smoothed 1480 = 93 ∧
    smoothed 1375 = 86 ∧ smoothed 2003 = 125 ∧ smoothed 1813 = 113 := by decide

/-- 06, the example of R96. -/
theorem test_february :
    (DayClock.mk .caller 2 28 23 59 58).tick = DayClock.mk .caller 2 28 23 59 59 ∧
    (DayClock.mk .caller 2 28 23 59 59).tick = DayClock.mk .caller 2 29 0 0 0 ∧
    (DayClock.mk .caller 2 29 23 59 59).tick = DayClock.mk .caller 3 1 0 0 0 := by decide

/-- 03, the example of R44: LOOP_CLOSE 3 placed over SURVEY_LOAD 5. -/
theorem test_merged_notice : mergeNotice (some (.surveyLoad, 5)) .loopClose 3 = (.loopClose, 5) := by decide

/-- 09, the example of R157: the four entries of station 6, in their order. -/
theorem test_snapshot :
    let rec' (seq : Nat) (cls : FaultClass) (qual : Option Nat) (first count : Nat) (value : Option Nat) : Record :=
      { seq := seq, cls := cls, origin := 6, qual := qual, source := .own, st := .active, reported := false,
        first := first, last := first, stamp := none, count := count, value := value }
    ({ base.log with records :=
        [rec' 1 .earth none 9900 1 (some 268), rec' 2 .noise none 7300 4 (some 11),
         rec' 3 .handsetLockout (some 2) 9012 1 none, rec' 4 .peerSilent (some 1) 4040 1 none] } : FaultLog).snapshot =
      { entries := [{ cls := 11, qual := some 1, count := 1, value := none },
                    { cls := 5, qual := none, count := 4, value := some 11 },
                    { cls := 9, qual := some 2, count := 1, value := none },
                    { cls := 4, qual := none, count := 1, value := some 268 }], more := false } := by decide

/-- 09, the worked case of R165: the reference and each excess. -/
theorem test_localisation :
    reference [⟨1, 1628, 0⟩, ⟨2, 1655, 30⟩, ⟨3, 1910, 60⟩, ⟨5, 1702, 80⟩] = some ⟨1, 1628, 0⟩ ∧
    RunSet.excess ⟨2, 1655, 30⟩ 1628 = 0 ∧ RunSet.excess ⟨3, 1910, 60⟩ 1628 = 222 ∧
    RunSet.excess ⟨5, 1702, 80⟩ 1628 = 0 := by decide

set_option maxRecDepth 8192 in
/-- 03, R42: a check register of all ones, x^16 + x^12 + x^5 + 1, not inverted. The value for the digits 1 to 9 is the
published one of that check, from outside the manual. -/
theorem test_frame_check : frameCheck [0x31, 0x32, 0x33, 0x34, 0x35, 0x36, 0x37, 0x38, 0x39] = 0x29B1 := by decide

/-- 12, R188: the sync word 0xB3 0x4D on the wire, each byte's least significant bit first. -/
theorem test_sync_bits :
    wireBits syncWord = [true, true, false, false, true, true, false, true,
                         true, false, true, true, false, false, true, false] ∧ syncBits = wireBits syncWord := by decide

/-- 10, R174: the NOTICE end is negative once it has passed, be it by less than a unit of 100 ms. -/
theorem test_notice_end : noticeUnits (-50) = -1 ∧ noticeUnits (-100) = -1 ∧ noticeUnits 0 = 0 ∧ noticeUnits 300 = 3 := by
  simp [noticeUnits]

/-- 02, R31: a gate's wave is high for its first 20 ms and low for the next 20. -/
theorem test_ring_wave :
    (gateOpen 19).driveHigh .one = true ∧ (gateOpen 20).driveHigh .one = false ∧
    (gateOpen 40).driveHigh .one = true := by decide

/-- 02, R25, R36: the end of burst 1 opens the caller window for 4 s also where the call was answered during the burst,
and the end of a later burst of that call does not reopen it. -/
theorem test_caller_window_opens_once :
    let burst : Bool → State := fun opened => base.onRing fun r =>
      { r with burst := .ending, burstSince := 99900, call := .answered, burstNo := 1, windowOpened := opened }
    (burstEnd (burst false)).ring.callerEnd = some 104000 ∧ (burstEnd (burst true)).ring.callerEnd = none := by decide

/-- 12, R189: bytes 2 to 5 of a STATE: ports LOCKOUT, BRACED RESTING HOLD, offer (8, 15), took-transfer (1, 1). -/
theorem test_state_bytes : (fullState.bytes.drop 2).take 4 = [0x66, 0xE2, 0x8F, 0x11] := by decide

end Sys2Proof.Tests
end

section
/-! The line figures (08, R141 to R145): one rule per arithmetic function, the ranges of its result, and the field of the
figures record it gives. -/

namespace Sys2Proof.Machine

/-! ### The fields of the figures record (R145) -/

/-- The feed resistance and its at-limit mark are the two parts of one answer. -/
theorem computeFigures_feed_and_atLimit {s : State} {answer : Option Nat × Bool}
    (h : feedResistance (mean16 s.survey.sums.openV) (mean16 s.survey.sums.loadV)
      (mean16 s.survey.sums.loadI) = answer) :
    s.computeFigures.feed = answer.1 ∧ s.computeFigures.atLimit = answer.2 :=
  ⟨congrArg Prod.fst h, congrArg Prod.snd h⟩

@[simp] theorem computeFigures_vOpen (s : State) : s.computeFigures.vOpen = mean16 s.survey.sums.openV := rfl

@[simp] theorem computeFigures_imbalance (s : State) :
    s.computeFigures.imbalance =
      earthImbalance (mean16 s.survey.sums.earthTip) (mean16 s.survey.sums.earthRing) := rfl

@[simp] theorem computeFigures_grade (s : State) : s.computeFigures.grade = noiseGrade s.survey.sums.noise := rfl

/-! ### The mean (R141) -/

/-- Sixteen samples of 12 bits have a mean of 12 bits. -/
theorem mean16_le {sum : Nat} (h : sum ≤ 65520) : mean16 sum ≤ 4095 := by
  unfold mean16
  omega

/-! ### The feed resistance (R142), case by case -/

section
variable {vOpen vLoad cI : Nat}

theorem feedResistance_unmeasurable (hc : cI < 200) : feedResistance vOpen vLoad cI = (none, false) := if_pos hc

theorem feedResistance_of_no_drop (hc : 200 ≤ cI) (hv : vOpen ≤ vLoad) :
    feedResistance vOpen vLoad cI = (some 0, false) := by
  rw [feedResistance, if_neg (Nat.not_lt.mpr hc), if_pos hv]

theorem feedResistance_of_drop (hc : 200 ≤ cI) (hv : vLoad < vOpen) :
    feedResistance vOpen vLoad cI =
      let r := ((vOpen - vLoad) * 6250 + cI / 2) / cI
      (some (if r ≤ 9999 then r else 9999), decide (9999 < r)) := by
  rw [feedResistance, if_neg (Nat.not_lt.mpr hc), if_neg (Nat.not_le.mpr hv)]
  dsimp only
  split
  next hr => rw [decide_eq_false (Nat.not_lt.mpr hr)]
  next hr => rw [decide_eq_true (Nat.lt_of_not_le hr)]

theorem feed_numerator_le (ho : vOpen ≤ 4095) (hi : cI ≤ 4095) :
    (vOpen - vLoad) * 6250 + cI / 2 ≤ 25595797 := by omega

end

/-- Settles O50: the means are in range, and each case of R142 is one rule of `feedResistance`. -/
theorem meansAndFeedResistance : Obligations.MeansAndFeedResistance := by
  intro s hOpen hLoad hCurrent hTip hRing vo vl ci num
  have hvo : vo ≤ 4095 := mean16_le hOpen
  have hci : ci ≤ 4095 := mean16_le hCurrent
  refine ⟨computeFigures_vOpen s, hvo, mean16_le hLoad, hci, mean16_le hTip, mean16_le hRing,
    ?unmeasurable, ?noDrop, ?drop⟩
  case unmeasurable => exact fun hc => computeFigures_feed_and_atLimit (feedResistance_unmeasurable hc)
  case noDrop => exact fun hc hv => computeFigures_feed_and_atLimit (feedResistance_of_no_drop hc hv)
  case drop =>
    exact fun hc hv =>
      ⟨feed_numerator_le hvo hci, computeFigures_feed_and_atLimit (feedResistance_of_drop hc hv)⟩

/-! ### The earth imbalance (R143) -/

theorem distance_eq_max_sub_min (a b : Nat) : distance a b = max a b - min a b := by
  unfold distance
  omega

theorem distance_le_add (a b : Nat) : distance a b ≤ a + b := by
  unfold distance
  omega

theorem distance_le_of_le {a b bound : Nat} (ha : a ≤ bound) (hb : b ≤ bound) : distance a b ≤ bound := by
  unfold distance
  omega

section
variable {vtg vrg : Nat}

theorem earthImbalance_absent (h : vtg + vrg < 64) : earthImbalance vtg vrg = none := if_pos h

theorem earthImbalance_of_total (h : 64 ≤ vtg + vrg) :
    earthImbalance vtg vrg = some ((distance vtg vrg * 1000 + (vtg + vrg) / 2) / (vtg + vrg)) :=
  if_neg (Nat.not_lt.mpr h)

theorem imbalance_numerator_le (ht : vtg ≤ 4095) (hr : vrg ≤ 4095) :
    distance vtg vrg * 1000 + (vtg + vrg) / 2 ≤ 4099095 := by
  have hdist : distance vtg vrg ≤ 4095 := distance_le_of_le ht hr
  omega

/-- The distance is at most the sum, and rounding adds less than one permille: the quotient stays within 1000. -/
theorem imbalance_le_thousand (h : 64 ≤ vtg + vrg) :
    (distance vtg vrg * 1000 + (vtg + vrg) / 2) / (vtg + vrg) ≤ 1000 := by
  have hdist : distance vtg vrg ≤ vtg + vrg := distance_le_add vtg vrg
  have hnum : distance vtg vrg * 1000 + (vtg + vrg) / 2 < (vtg + vrg) * 1001 := by omega
  exact Nat.le_of_lt_succ (Nat.div_lt_of_lt_mul hnum)

end

/-! ### The noise level and grade (R144) -/

theorem noiseLevel_le {sum : Nat} (h : sum ≤ 524288) : noiseLevel sum ≤ 2048 := by
  unfold noiseLevel
  omega

theorem noiseGrade_eq_countP (sum : Nat) :
    noiseGrade sum = noiseThresholds.countP fun t => decide (t ≤ noiseLevel sum) :=
  List.countP_eq_length_filter.symm

/-- There are fifteen thresholds to reach. -/
theorem noiseGrade_le (sum : Nat) : noiseGrade sum ≤ 15 := List.length_filter_le _ noiseThresholds

/-- Settles O51: the two cases of R143 with their ranges, and the grade as a count of thresholds. -/
theorem imbalanceAndNoiseGrade : Obligations.ImbalanceAndNoiseGrade := by
  intro s hTip hRing hNoise vt vr diff num level
  have hvt : vt ≤ 4095 := mean16_le hTip
  have hvr : vr ≤ 4095 := mean16_le hRing
  have hdiff : distance vt vr = diff := distance_eq_max_sub_min vt vr
  have hnum : distance vt vr * 1000 + (vt + vr) / 2 = num := by rw [hdiff]
  refine ⟨?absent, ?measured, noiseLevel_le hNoise, ?gradeRange, ?gradeCount⟩
  case absent => exact fun htotal => (computeFigures_imbalance s).trans (earthImbalance_absent htotal)
  case measured =>
    intro htotal
    rw [← hnum, ← hdiff]
    exact ⟨(computeFigures_imbalance s).trans (earthImbalance_of_total htotal), distance_le_add vt vr,
      imbalance_numerator_le hvt hvr, imbalance_le_thousand htotal⟩
  case gradeRange =>
    rw [computeFigures_grade]
    exact noiseGrade_le _
  case gradeCount => exact (computeFigures_grade s).trans (noiseGrade_eq_countP _)

end Sys2Proof.Machine
end
